-- ==== Sys2Proof/Word.lean ====
section
/-! DEFINITION. The number types of the KS-460: bytes, part time, and one index type per numbered object
(00_scope, "Numbers, times and names"). Counts, levels, positions and durations are plain `Nat`: the manual computes
them exactly and never wraps them (R8 names the one wrapping number, part time). -/

namespace Sys2Proof

/-- One byte of a trunk frame. -/
abbrev Byte := BitVec 8

/-- Part time, show time and every deadline: 32-bit milliseconds that wrap (R8). -/
abbrev Time := BitVec 32

/-- A zone line, 0 to 5 (02_zone_lines). -/
abbrev LineIx := Fin 6

/-- A slot of a line frame, 0 to 47 (R22). -/
abbrev SlotIx := Fin 48

/-- A node address on a line, 0 to 15 (R23). -/
abbrev NodeIx := Fin 16

/-- A bay, 0 to 15 (R38). -/
abbrev BayIx := Fin 16

/-- A universe watch entry, 0 to 7 (R56). -/
abbrev WatchIx := Fin 8

/-- A curve, 0 to 7 (R61). -/
abbrev CurveIx := Fin 8

/-- A light group, 0 to 63 (R83). -/
abbrev GroupIx := Fin 64

/-- A trigger entry, 0 to 127 (R91). -/
abbrev TrigIx := Fin 128

/-- An input bit of a TRIGGER word, 0 to 15 (R29). -/
abbrev BitIx := Fin 16

/-- A scene, 0 to 95 (R105). -/
abbrev SceneIx := Fin 96

/-- An instance record, 0 to 11 (R106). -/
abbrev InstIx := Fin 12

/-- A cue memory index, 0 to 2,047 (R128). -/
abbrev CueIx := Fin 2048

/-- A speaker zone, 0 to 23 (R149). -/
abbrev ZoneIx := Fin 24

/-- An axis, 0 to 23 (R169). -/
abbrev AxisIx := Fin 24

/-- A lighting universe, 0 to 1,023 (R56). -/
abbrev UniverseIx := Fin 1024

/-- A station address, 0 to 63; 63 is a listener, and broadcast in a frame (R3). -/
abbrev StationIx := Fin 64

end Sys2Proof
end

