-- ==== Sys2Proof/Config.lean ====
section
/-! DEFINITION. The fixed sizes of the part, and the FREE VALUES: constants without a body, which stand for the
choices the manual leaves open. No proof can see what a free value is, so a statement holds whatever it is. -/

namespace Sys2Proof.Config

/-- Frames the B-out relay queue holds (R4). -/
def bOutMax : Nat := 16
/-- Frames the A-out own queue holds (R7). -/
def ownMax : Nat := 32
/-- Frames the A-out relay queue holds (R5). -/
def relayMax : Nat := 16
/-- Commands the command queue holds (R9). -/
def cmdMax : Nat := 8
/-- Entries the wait list holds (R115). -/
def waitMax : Nat := 8
/-- Blocks of the narration pool (R149). -/
def poolBlocks : Nat := 1536
/-- Cues one due event may execute (R134). -/
def burst : Nat := 16
/-- The longest fade, linger, release or cooldown time, and the furthest a deadline is set (R8, R77). -/
def longest : Nat := 600000
/-- The upper bound of a 16-bit saturating count. -/
def countMax : Nat := 65535

/-- FREE VALUE (log entry 3). Of two acts of one event whose order the manual leaves open, whether the first comes
first: the n-th such choice of a run. -/
opaque actOrder : Nat → Bool

/-- FREE VALUE (log entry 3). The order in which the Admission Unit, the Cue Engine, the Narration Buffer and the
Motion Governor take one bay change, and whether cues that a freeze made due run before the change reaches their owner
(R45, R143, R180): one of 24 orders, with and without those cues. -/
opaque bayOrder : Nat → Fin 48

/-- FREE VALUE (log entry 2). Which of several events that are due at one part time is taken first (R8, R58, R62,
R77, R93, R95, R107, R118, R123, R141: "may be taken in either order"). -/
opaque pickDue : Nat → Nat

end Sys2Proof.Config
end

