-- ==== Sys2Proof/Syntax.lean ====
section
/-! DEFINITION. The commands of the block: one constructor of `Instr` for each row of spec/opcode_table.json, with the
row's operands. A frame row carries the whole trunk frame (layout 12.1); a row that executes a show-controller command
carries that command's tag and its operand bytes as the COMMAND frame laid them out (layout 12.2); an expiry row names
the object whose deadline expires. -/

namespace Sys2Proof

/-- The two trunk ports: A faces upstream, B downstream (1.1). -/
inductive Port | a | b
deriving DecidableEq, Repr

/-- The two audio streams of a speaker zone (R152). -/
inductive Stream | voice | bed
deriving DecidableEq, Repr

/-- A trunk frame as received or sent (layout 12.1): kind, station byte, payload and check word. Bytes 2 to 3 hold the
payload length, so the length is the payload's own. -/
structure Frame where
  kind : Byte
  station : Byte
  payload : List Byte
  check : BitVec 16
deriving DecidableEq, Repr

/-- The operations and events of the part. -/
inductive Instr
  /-- COLD_RESET (R17), with the six address lines' value. -/
  | coldReset (strap : StationIx)
  /-- LINK_UP (R1). -/
  | linkUp (p : Port)
  /-- LINK_DOWN (R1). -/
  | linkDown (p : Port)
  /-- LEVEL_FRAME (R58): the frame arrives on port A. -/
  | levelFrame (f : Frame)
  /-- CLOCK_FRAME (R8): the frame arrives on port A. -/
  | clockFrame (f : Frame)
  /-- BLOCK_FRAME (R153): the frame arrives on port A. -/
  | blockFrame (f : Frame)
  /-- COMMAND_FRAME (R9): the frame arrives on port A. -/
  | commandFrame (f : Frame)
  /-- RETURN_FRAME (R5): the frame arrives on port B. -/
  | returnFrame (f : Frame)
  /-- PORT_B_TRANSMISSION_DONE (R4). -/
  | portBTransmissionDone
  /-- PORT_A_TRANSMISSION_DONE (R6). -/
  | portATransmissionDone
  /-- WAITING_ANSWER_PLACED (R10). -/
  | waitingAnswerPlaced
  /-- UNKNOWN_COMMAND (R11): the command at the head has an unknown code. -/
  | unknownCommand (tag code : Byte) (ops : List Byte)
  /-- LOAD_PARAMS (R14). In this and every LOAD row `ops` begins with the table byte and the line byte. -/
  | loadParams (tag : Byte) (ops : List Byte)
  /-- LOAD_WATCH (R56). -/
  | loadWatch (tag : Byte) (ops : List Byte)
  /-- LOAD_SLOT (R23). -/
  | loadSlot (tag : Byte) (ops : List Byte)
  /-- LOAD_LINE (R24). -/
  | loadLine (tag : Byte) (ops : List Byte)
  /-- LOAD_CURVE (R61). -/
  | loadCurve (tag : Byte) (ops : List Byte)
  /-- LOAD_GROUP (R83). -/
  | loadGroup (tag : Byte) (ops : List Byte)
  /-- LOAD_BAY (R38). -/
  | loadBay (tag : Byte) (ops : List Byte)
  /-- LOAD_TRIGGER (R91). -/
  | loadTrigger (tag : Byte) (ops : List Byte)
  /-- LOAD_SCENE (R105). -/
  | loadScene (tag : Byte) (ops : List Byte)
  /-- LOAD_CUE (R129). -/
  | loadCue (tag : Byte) (ops : List Byte)
  /-- LOAD_ZONE (R150). -/
  | loadZone (tag : Byte) (ops : List Byte)
  /-- LOAD_AXIS (R169). -/
  | loadAxis (tag : Byte) (ops : List Byte)
  /-- READ (R16). -/
  | read (tag : Byte) (ops : List Byte)
  /-- RESET_PART (R18). -/
  | resetPart (tag : Byte) (ops : List Byte)
  /-- LINE_ON (R20). -/
  | lineOn (tag : Byte) (ops : List Byte)
  /-- LINE_OFF (R21). -/
  | lineOff (tag : Byte) (ops : List Byte)
  /-- OPEN_BAY (R47). -/
  | openBay (tag : Byte) (ops : List Byte)
  /-- CLOSE_BAY (R48). -/
  | closeBay (tag : Byte) (ops : List Byte)
  /-- HOLD_BAY (R49). -/
  | holdBay (tag : Byte) (ops : List Byte)
  /-- RELEASE_BAY (R50). -/
  | releaseBay (tag : Byte) (ops : List Byte)
  /-- SERVICE_BAY (R51). -/
  | serviceBay (tag : Byte) (ops : List Byte)
  /-- PARK_SLOT (R71). -/
  | parkSlot (tag : Byte) (ops : List Byte)
  /-- UNPARK_SLOT (R73). -/
  | unparkSlot (tag : Byte) (ops : List Byte)
  /-- SET_MASTER (R67). -/
  | setMaster (tag : Byte) (ops : List Byte)
  /-- START_SCENE (R122). -/
  | startScene (tag : Byte) (ops : List Byte)
  /-- STOP_SCENE (R123). -/
  | stopScene (tag : Byte) (ops : List Byte)
  /-- RESET_AXIS (R184). -/
  | resetAxis (tag : Byte) (ops : List Byte)
  /-- SET_REPORTING (R192). -/
  | setReporting (tag : Byte) (ops : List Byte)
  /-- CLEAR_CHECKS (R193). -/
  | clearChecks (tag : Byte) (ops : List Byte)
  /-- FRAME_START (R19). -/
  | frameStart (line : LineIx)
  /-- REPLY_WINDOW (R29): the window closes, with the 17-bit reply word that came within it, or none. -/
  | replyWindow (line : LineIx) (slot : SlotIx) (word : Option (BitVec 17))
  /-- FRAME_END (R30). -/
  | frameEnd (line : LineIx)
  /-- LINGER_EXPIRY (R41). -/
  | lingerExpiry (bay : BayIx)
  /-- HOLD_RELEASE_EXPIRY (R43). -/
  | holdReleaseExpiry (bay : BayIx)
  /-- STALE_EXPIRY (R59). -/
  | staleExpiry (entry : WatchIx)
  /-- FADE_END_EVENT (R78). -/
  | fadeEndEvent (line : LineIx) (slot : SlotIx)
  /-- THROTTLE_EXPIRY (R98). -/
  | throttleExpiry
  /-- READY_TIME_EXPIRY (R108). -/
  | readyTimeExpiry (scene : SceneIx)
  /-- WAIT_ENTRY_EXPIRY (R118), of the wait entry of the scene. -/
  | waitEntryExpiry (scene : SceneIx)
  /-- DUE_EVENT (R131). -/
  | dueEvent (i : InstIx)
  /-- WAIT_TIMEOUT (R142). -/
  | waitTimeout (i : InstIx)
  /-- NEXT_SEND_EXPIRY (R164). -/
  | nextSendExpiry (zone : ZoneIx) (stream : Stream)
  /-- AXIS_END_DEADLINE (R178). -/
  | axisEndDeadline (axis : AxisIx)
  /-- REFILL_DEADLINE_EXPIRY (R175). -/
  | refillDeadlineExpiry (axis : AxisIx)
  /-- MALFORMED_FRAME_RECEIVED (R2). -/
  | malformedFrameReceived (p : Port) (f : Frame)
  /-- LOAD_UNKNOWN_TABLE (R13). -/
  | loadUnknownTable (tag : Byte) (ops : List Byte)
deriving DecidableEq, Repr

end Sys2Proof
end

