-- ==== Sys2Proof/Decode.lean ====
section
/-! DEFINITION. Reading frames and commands: the check word and the envelope test of a trunk frame (R2, R196, layout
12.1), the row that executes a command of a given code (layouts 12.2 and 12.3), and `decodeTableWord`, which answers
none because spec/opcode_table.json gives no row any bits. -/

namespace Sys2Proof

/-- The number two bytes hold, high byte first (12). -/
def be2 (hi lo : Byte) : Nat := hi.toNat * 256 + lo.toNat

/-- The two bytes of a number, high byte first (12). -/
def toBytes2 (n : Nat) : List Byte := [BitVec.ofNat 8 (n / 256), BitVec.ofNat 8 n]

/-- The four bytes of a part time, high byte first (12). -/
def toBytes4 (t : Time) : List Byte :=
  [BitVec.ofNat 8 (t.toNat / 16777216), BitVec.ofNat 8 (t.toNat / 65536), BitVec.ofNat 8 (t.toNat / 256),
    BitVec.ofNat 8 t.toNat]

/-- Frame kind codes (12.1). -/
def kindLevel : Byte := 0x01
/-- CLOCK. -/
def kindClock : Byte := 0x02
/-- BLOCK. -/
def kindBlock : Byte := 0x03
/-- COMMAND. -/
def kindCommand : Byte := 0x04
/-- REPORT. -/
def kindReport : Byte := 0x08
/-- ANSWER. -/
def kindAnswer : Byte := 0x09

/-- One bit of the check word, most significant bit first: generator 1021h, no reflection, no final inversion (12.1). -/
def crcBit (crc : Nat) : Nat :=
  if crc < 32768 then crc * 2 else ((crc * 2) % 65536) ^^^ 0x1021

/-- One byte of the check word (12.1). -/
def crcByte (crc : Nat) (b : Byte) : Nat :=
  crcBit (crcBit (crcBit (crcBit (crcBit (crcBit (crcBit (crcBit (crc ^^^ (b.toNat * 256)))))))))

/-- The check word of a run of bytes, from the initial value FFFFh (12.1). -/
def crc16 (bytes : List Byte) : BitVec 16 := BitVec.ofNat 16 (bytes.foldl crcByte 0xFFFF)

/-- Bytes 0 to 3+L of a frame: everything before its check word (12.1). -/
def Frame.body (f : Frame) : List Byte := f.kind :: f.station :: (toBytes2 f.payload.length ++ f.payload)

/-- All bytes of a frame in the order sent (12.1). -/
def Frame.bytes (f : Frame) : List Byte := f.body ++ toBytes2 f.check.toNat

/-- A frame with the check word its bytes call for. -/
def Frame.build (kind station : Byte) (payload : List Byte) : Frame :=
  { kind := kind, station := station, payload := payload,
    check := crc16 (kind :: station :: (toBytes2 payload.length ++ payload)) }

/-- The station number: bits 5 to 0 of byte 1; the bits above are ignored on receipt (12.1). -/
def Frame.dest (f : Frame) : StationIx := Fin.ofNat 64 f.station.toNat

/-- The byte length a BLOCK payload carries in its bytes 6 to 7 (12.2). -/
def blockLength (payload : List Byte) : Nat := be2 (payload.getD 6 0) (payload.getD 7 0)

/-- Whether a payload length is one the kind allows (R196). Any other kind is unknown. -/
def lengthAllowed (kind : Byte) (payload : List Byte) : Bool :=
  let n := payload.length
  if kind = kindLevel then n == 258
  else if kind = kindClock then n == 4
  else if kind = kindBlock then
    decide (1 ≤ blockLength payload) && decide (blockLength payload ≤ 384) && n == 8 + blockLength payload
  else if kind = kindCommand then decide (2 ≤ n) && decide (n ≤ 512)
  else if kind = kindAnswer then decide (3 ≤ n) && decide (n ≤ 512)
  else if kind = kindReport then decide (6 ≤ n) && decide (n ≤ 512)
  else false

/-- Whether a kind travels the right way for the port it arrives on (R2). -/
def directionAllowed (p : Port) (kind : Byte) : Bool :=
  match p with
  | .a => kind == kindLevel || kind == kindClock || kind == kindBlock || kind == kindCommand
  | .b => kind == kindAnswer || kind == kindReport

/-- The envelope test of R2: check word, length, kind, direction, and no BLOCK for station 63. -/
def Frame.good (p : Port) (f : Frame) : Bool :=
  f.check == crc16 f.body && lengthAllowed f.kind f.payload && directionAllowed p f.kind &&
    !(f.kind == kindBlock && f.dest == 63)

/-- The row of a LOAD, from its table byte (12.3). A LOAD that names no loadable table, or SLOT with a line above 5
(R13), or that carries no operand byte at all (log entry 16), is LOAD_UNKNOWN_TABLE. -/
def loadInstr (tag : Byte) (ops : List Byte) : Instr :=
  match ops with
  | [] => .loadUnknownTable tag ops
  | table :: rest =>
    if table = 0x00 then .loadParams tag ops
    else if table = 0x01 then .loadWatch tag ops
    else if table = 0x02 then
      if (rest.getD 0 0).toNat ≤ 5 then .loadSlot tag ops else .loadUnknownTable tag ops
    else if table = 0x03 then .loadLine tag ops
    else if table = 0x04 then .loadCurve tag ops
    else if table = 0x05 then .loadGroup tag ops
    else if table = 0x06 then .loadBay tag ops
    else if table = 0x07 then .loadTrigger tag ops
    else if table = 0x08 then .loadScene tag ops
    else if table = 0x09 then .loadCue tag ops
    else if table = 0x0A then .loadZone tag ops
    else if table = 0x0B then .loadAxis tag ops
    else .loadUnknownTable tag ops

/-- The row that executes a command of the given code (12.2); any other code is unknown (R11). -/
def commandInstr (tag code : Byte) (ops : List Byte) : Instr :=
  if code = 0x01 then loadInstr tag ops
  else if code = 0x02 then .read tag ops
  else if code = 0x03 then .resetPart tag ops
  else if code = 0x10 then .lineOn tag ops
  else if code = 0x11 then .lineOff tag ops
  else if code = 0x20 then .openBay tag ops
  else if code = 0x21 then .closeBay tag ops
  else if code = 0x22 then .holdBay tag ops
  else if code = 0x23 then .releaseBay tag ops
  else if code = 0x24 then .serviceBay tag ops
  else if code = 0x30 then .parkSlot tag ops
  else if code = 0x31 then .unparkSlot tag ops
  else if code = 0x32 then .setMaster tag ops
  else if code = 0x40 then .startScene tag ops
  else if code = 0x41 then .stopScene tag ops
  else if code = 0x50 then .resetAxis tag ops
  else if code = 0x60 then .setReporting tag ops
  else if code = 0x61 then .clearChecks tag ops
  else .unknownCommand tag code ops

/-- The command that a word spells by the table's bits. spec/opcode_table.json gives no row any bits, so no word spells
a command. -/
def decodeTableWord (_nbits _w : Nat) : Option Instr := none

end Sys2Proof
end

