-- ==== Sys2Proof/WellFormed.lean ====
section
/-! DEFINITION. Which terms of `Instr` are commands of the part: a frame row carries a frame of its own kind that passes
the envelope test on its port (R2), the malformed-frame row carries one that fails it, and a row that executes a command
is the row of that command's code and table (12.2, 12.3). -/

namespace Sys2Proof

/-- A frame row's frame is good on its port and of the row's kind. -/
def Frame.goodOf (p : Port) (kind : Byte) (f : Frame) : Bool := f.good p && f.kind == kind

/-- The operand bytes fit in a COMMAND payload of at most 512 bytes, after its tag and code (R196). -/
def fits (ops : List Byte) : Bool := decide (ops.length ≤ 510)

/-- Whether a term is a command of the part. -/
def Instr.wellFormed (i : Instr) : Bool :=
  match i with
  | .levelFrame f => f.goodOf .a kindLevel
  | .clockFrame f => f.goodOf .a kindClock
  | .blockFrame f => f.goodOf .a kindBlock
  | .commandFrame f => f.goodOf .a kindCommand
  | .returnFrame f => f.good .b
  | .malformedFrameReceived p f => !(f.good p)
  | .unknownCommand tag code ops => fits ops && decide (commandInstr tag code ops = .unknownCommand tag code ops)
  | .loadParams tag ops => fits ops && decide (loadInstr tag ops = .loadParams tag ops)
  | .loadWatch tag ops => fits ops && decide (loadInstr tag ops = .loadWatch tag ops)
  | .loadSlot tag ops => fits ops && decide (loadInstr tag ops = .loadSlot tag ops)
  | .loadLine tag ops => fits ops && decide (loadInstr tag ops = .loadLine tag ops)
  | .loadCurve tag ops => fits ops && decide (loadInstr tag ops = .loadCurve tag ops)
  | .loadGroup tag ops => fits ops && decide (loadInstr tag ops = .loadGroup tag ops)
  | .loadBay tag ops => fits ops && decide (loadInstr tag ops = .loadBay tag ops)
  | .loadTrigger tag ops => fits ops && decide (loadInstr tag ops = .loadTrigger tag ops)
  | .loadScene tag ops => fits ops && decide (loadInstr tag ops = .loadScene tag ops)
  | .loadCue tag ops => fits ops && decide (loadInstr tag ops = .loadCue tag ops)
  | .loadZone tag ops => fits ops && decide (loadInstr tag ops = .loadZone tag ops)
  | .loadAxis tag ops => fits ops && decide (loadInstr tag ops = .loadAxis tag ops)
  | .loadUnknownTable tag ops => fits ops && decide (loadInstr tag ops = .loadUnknownTable tag ops)
  | .read _ ops | .resetPart _ ops | .lineOn _ ops | .lineOff _ ops | .openBay _ ops | .closeBay _ ops
  | .holdBay _ ops | .releaseBay _ ops | .serviceBay _ ops | .parkSlot _ ops | .unparkSlot _ ops
  | .setMaster _ ops | .startScene _ ops | .stopScene _ ops | .resetAxis _ ops | .setReporting _ ops
  | .clearChecks _ ops => fits ops
  | .coldReset _ | .linkUp _ | .linkDown _ | .portBTransmissionDone | .portATransmissionDone | .waitingAnswerPlaced
  | .frameStart _ | .replyWindow _ _ _ | .frameEnd _ | .lingerExpiry _ | .holdReleaseExpiry _ | .staleExpiry _
  | .fadeEndEvent _ _ | .throttleExpiry | .readyTimeExpiry _ | .waitEntryExpiry _ | .dueEvent _ | .waitTimeout _
  | .nextSendExpiry _ _ | .axisEndDeadline _ | .refillDeadlineExpiry _ => true

end Sys2Proof
end

