-- ==== Sys2Proof/Machine/State.lean ====
section
/-! DEFINITION. The state of the KS-460: every record, table, queue, count and flag the manual gives the part, as plain
data, with its value after a cold reset (R17, R36, R54, R74, R89, R103, R125, R147, R167, R185, R195). -/

namespace Sys2Proof.Machine

/-- Every way a step of the part can stop. The manual gives every operation and event an effect and never stops the
part, so there is none: no meaning raises a fault (safe). -/
inductive Fault
deriving DecidableEq, Repr

/-- Every way a command can be turned away without a meaning. -/
inductive Refusal
  /-- Raised by an arm of `exec` whose row has no meaning yet; safe. No arm raises it: every row has its meaning. -/
  | notModelled (mnemonic : String)
deriving DecidableEq, Repr

/-! ## The Check Unit's and the Command Unit's vocabulary -/

/-- A trunk port's link state (R1). -/
inductive Link | up | down
deriving DecidableEq, Repr

/-- The A-out queue that supplied the last frame sent on port A (R6). -/
inductive Served | own | relay
deriving DecidableEq, Repr

/-- The bay states, in the order of their codes (R196). -/
inductive BayState | dark | attract | live | hold | service
deriving DecidableEq, Repr

/-- The causes of a bay's change of state (R52). -/
inductive BayCause
  | opened | closed | serviced | held | released | entered | linger | sensor | sensorClear | fault
deriving DecidableEq, Repr

/-- Where a scene request comes from (R106). -/
inductive Origin | trigger | bay | command
deriving DecidableEq, Repr

/-- The status of an answer (R11). -/
inductive Status | ok | badFrame | badTable | badIndex | inUse | refused | busy
deriving DecidableEq, Repr

/-- The reasons of a REFUSED answer, in the order of R11. -/
inductive RefuseReason
  | bayClosed | bayState | cooldown | alreadyRunning | alreadyWaiting | conflict | noInstance | waitFull | notDefined
deriving DecidableEq, Repr

/-- Why a LOAD skipped an entry (R14). -/
inductive SkipReason | inUse | badValue
deriving DecidableEq, Repr

/-- What an answer's status carries (R11, 12.4). -/
inductive Detail
  | none
  | inst (i : InstIx)
  | waiting
  | stopped (acted : Bool)
  | bayState (b : BayState)
  | read (table line : Byte) (first count : Nat) (entries : List Byte)
  | skipped (first number : Nat) (reason : SkipReason)
  | refused (reason : RefuseReason)
deriving DecidableEq, Repr

/-- An answer: the tag and the command it answers, the status and its detail (R11). -/
structure Answer where
  tag : Byte
  code : Byte
  status : Status
  detail : Detail
deriving DecidableEq, Repr

/-- A command the station has taken: its tag, its code and its operand bytes (R9, 12.2). -/
structure Command where
  tag : Byte
  code : Byte
  ops : List Byte
deriving DecidableEq, Repr

/-- Check classes (11.1). -/
inductive CheckClass | link | relay | node | reply | stale | cue | pool | axis
deriving DecidableEq, Repr

/-- Severities, lowest first (11.1). -/
inductive Severity | notice | severe | fatal
deriving DecidableEq, Repr

/-- The trunk queues a RELAY check can name (1). -/
inductive TrunkQueue | bOut | own | relay
deriving DecidableEq, Repr

/-- The test that made a cue invalid, in the order of R132. -/
inductive CueTest | outside | unknownKind | group | zone | axis | safetyMove
deriving DecidableEq, Repr

/-- Why an arriving chunk was dropped (R153 to R155). -/
inductive PoolReason | unknownZone | badClass | unclaimed | ambientOff | reserve | poolFull | zoneLimit
deriving DecidableEq, Repr

/-- Why an axis faulted (R183). -/
inductive AxisCause | following | feedbackLost
deriving DecidableEq, Repr

/-- What a check names (11.1). -/
inductive CheckObject
  | port (p : Port)
  | queue (q : TrunkQueue)
  | node (line : LineIx) (node : NodeIx)
  | reply (line : LineIx) (slot : SlotIx) (node : NodeIx)
  | watch (entry : WatchIx) (uni : Option UniverseIx)
  | cue (scene : SceneIx) (inst : InstIx) (index : Nat) (test : CueTest)
  | chunk (zone : Nat) (cls : Byte) (clip seq : Nat) (reason : PoolReason)
  | axis (axis : AxisIx) (cause : AxisCause)
deriving DecidableEq, Repr

/-- A recorded check (R187, R188). Its class and severity follow from its object (11.1). -/
structure Check where
  object : CheckObject
  time : Time
  showTime : Time
  inst : Option InstIx
deriving DecidableEq, Repr

/-- The directions of an input edge (R32). -/
inductive Edge | rise | fall
deriving DecidableEq, Repr

/-- The actions of a trigger entry, as a report names them (R91). -/
inductive ActionKind | none | start | stop | cue | enter | leave | intrusion
deriving DecidableEq, Repr

/-- The outcome a TRIGGER report carries (R102). -/
inductive TrigOutcome
  | waitMet (n : Nat) | startSent | stopSent | noAction | counted | active | inactive | unmatched
deriving DecidableEq, Repr

/-- The causes of an instance's end (R120). -/
inductive EndCause | endCue | aborted | cue | fault | stopped | preempted | bay
deriving DecidableEq, Repr

/-- Why a wait entry left the list without admission (R118). -/
inductive RemoveReason | expired | bayClosed | bayState | stopped
deriving DecidableEq, Repr

/-- Why a move was refused (R137). -/
inductive MoveDenied | unsynced | stopped | bayState | budget
deriving DecidableEq, Repr

/-- The kinds of a cue wait (R127). -/
inductive WaitKind | trigger | motion | clip
deriving DecidableEq, Repr

/-- The event of a SCENE report and its detail (R124, R146). -/
inductive SceneEvent
  | admitted
  | waiting
  | refused (reason : RefuseReason)
  | restarted
  | ended (cause : EndCause) (preempting : Option SceneIx)
  | waitRemoved (reason : RemoveReason)
  | moveDenied (cue : CueIx) (axis : AxisIx) (reason : MoveDenied)
  | waitTimeout (cue : CueIx) (kind : WaitKind)
  | suspended
  | resumed
deriving DecidableEq, Repr

/-- The causes why a bay is, or would be, held (3.3). -/
structure HoldCauses where
  sensor : Bool := false
  command : Bool := false
  fault : Bool := false
deriving DecidableEq, Repr

/-- The reporting modes, lowest first (R189). -/
inductive Mode | quiet | fatal | severe | all
deriving DecidableEq, Repr

/-- The report-kind mask: one enable per kind (11). -/
structure KindMask where
  trigger : Bool := true
  scene : Bool := true
  bay : Bool := true
  pace : Bool := true
  check : Bool := true
deriving DecidableEq, Repr

/-- The body of a report (R190). -/
inductive ReportBody
  | trigger (entry : Option TrigIx) (line : LineIx) (slot : SlotIx) (bit : BitIx) (edge : Option Edge)
      (action : Option ActionKind) (outcome : TrigOutcome)
  | scene (scene : SceneIx) (inst : Option InstIx) (origin : Origin) (event : SceneEvent)
  | bay (bay : BayIx) (old new : BayState) (cause : BayCause) (causes : HoldCauses) (occupancy intrusions : Nat)
  | pace (zone : ZoneIx) (slow : Bool) (usage free : Nat)
  | check (check : Check) (count : Nat)
  | started (cold : Bool) (time : Time) (mode : Mode) (mask : KindMask) (listener : Bool)
deriving DecidableEq, Repr

/-- A report: the show time of its event, the lost-report count taken at its placing, and its body (R190). -/
structure Report where
  showTime : Time
  lost : Nat
  body : ReportBody
deriving DecidableEq, Repr

/-- A frame of the A-out own queue (R7). -/
inductive OwnFrame
  | answer (a : Answer)
  | report (r : Report)
deriving DecidableEq, Repr

/-- One class record of the check capture (11). -/
structure ClassRec where
  seen : Bool := false
  count : Nat := 0
deriving DecidableEq, Repr

/-- The Check Unit (11). -/
structure CheckUnit where
  classes : Vector ClassRec 8 := Vector.replicate 8 {}
  context : Option Check := none
  mode : Mode := .severe
  mask : KindMask := {}
  lost : Nat := 0
deriving DecidableEq, Repr

/-! ## The Trunk Port and the Command Unit -/

/-- The Trunk Port (1). `sendingA` is the frame port A is sending; port B sends the head of its queue while it is UP
(R4), so it needs no field of its own. -/
structure Trunk where
  linkA : Link := .down
  linkB : Link := .down
  bOut : List Frame := []
  own : List OwnFrame := []
  relay : List Frame := []
  sendingA : Option Frame := none
  lastServed : Served := .relay
  station : StationIx := 0
  offset : Time := 0
  now : Time := 0
  linkErrors : Nat := 0
  downDrops : Nat := 0
  returnDrops : Nat := 0
  busyDiscards : Nat := 0
deriving DecidableEq, Repr

/-- The Command Unit: the command queue, its head executing, and the answer that waits for space (R9, R10). -/
structure CommandUnit where
  queue : List Command := []
  waiting : Option Answer := none
deriving DecidableEq, Repr

/-- PARAMS (R15). -/
structure Params where
  throttle : Nat := 2000
  stale : Nat := 1000
  ambientReserve : Nat := 192
  sceneReserve : Nat := 48
deriving DecidableEq, Repr

/-! ## Zone lines -/

/-- Slot kinds (2.3). -/
inductive SlotKind | off | level | gain | axis | reply
deriving DecidableEq, Repr

/-- How a slot's fade merges with its base (R65). -/
inductive Merge | take | highest
deriving DecidableEq, Repr

/-- What a REPLY slot's word holds (R29). -/
inductive ReplyKind | trigger | position
deriving DecidableEq, Repr

/-- A slot record (2.3). -/
structure SlotRec where
  kind : SlotKind := .off
  node : NodeIx := 0
  bay : BayIx := 0
  patch : Option (WatchIx × Fin 256) := none
  merge : Merge := .take
  curve : CurveIx := 0
  workLight : Bool := false
  reportUnmatched : Bool := false
  replyKind : ReplyKind := .trigger
  axis : AxisIx := 0
  ceiling : Nat := 0
deriving DecidableEq, Repr

/-- Line parameters (R24). Slot n's quiet flag is bit n of the mask. -/
structure LineParams where
  interval : Nat := 25
  allowance : Nat := 4
  mask : BitVec 48 := 0
deriving DecidableEq, Repr

/-- A node's presence (R31). -/
inductive Presence | unknown | present | absent
deriving DecidableEq, Repr

/-- One row of a line's node table (R31). -/
structure Node where
  presence : Presence := .unknown
  misses : Nat := 0
deriving DecidableEq, Repr

/-- A slot's reply window in the frame in progress: none, open, or closed with no valid word or with one (R29). -/
inductive Window | none | opened | missed | valid (word : BitVec 16)
deriving DecidableEq, Repr

/-- What a slot period carries (R25): nothing, a value for a node, or a poll and reply window for a node. -/
inductive Content | quiet | value (node : NodeIx) (v : Nat) | poll (node : NodeIx)
deriving DecidableEq, Repr

/-- The classes of a chunk (R149). -/
inductive ChunkClass | announce | scene | ambient
deriving DecidableEq, Repr

/-- A stored chunk (R149). Its byte length is the length of its audio. -/
structure Chunk where
  cls : ChunkClass
  clip : Nat
  seq : Nat
  last : Bool
  audio : List Byte
  arrival : Time
deriving DecidableEq, Repr

/-- A chunk in transmission in a line's block window: its zone, the node its header names, and the chunk (R34). -/
structure Carried where
  zone : ZoneIx
  node : NodeIx
  chunk : Chunk
deriving DecidableEq, Repr

/-- A Line Engine (2). `frame` is the start time of the frame in progress. -/
structure LineEngine where
  running : Bool := false
  stopPending : Bool := false
  loaded : Vector SlotRec 48 := Vector.replicate 48 {}
  inForce : Vector SlotRec 48 := Vector.replicate 48 {}
  loadedParams : LineParams := {}
  params : LineParams := {}
  nextStart : Option Time := none
  frame : Option Time := none
  nodes : Vector Node 16 := Vector.replicate 16 {}
  prev : Vector (Option (BitVec 16)) 48 := Vector.replicate 48 none
  windows : Vector Window 48 := Vector.replicate 48 .none
  content : Vector Content 48 := Vector.replicate 48 .quiet
  sent : Vector (Option Nat) 48 := Vector.replicate 48 none
  block : List Carried := []
  replyErrors : Nat := 0
deriving DecidableEq, Repr

/-! ## Bays -/

/-- A bay record (3.1). The intrusion count is the length of the intrusion set. -/
structure Bay where
  state : BayState := .dark
  entryTime : Time := 0
  occupancy : Nat := 0
  intrusions : List TrigIx := []
  causes : HoldCauses := {}
  linger : Option Time := none
  holdRelease : Option Time := none
  underflow : Nat := 0
  overflow : Nat := 0
  ignored : Nat := 0
  lingerTime : Nat := 10000
  holdReleaseTime : Nat := 5000
  attractMaster : Nat := 255
  liveMaster : Nat := 255
  audioMaster : Nat := 255
  workFloor : Nat := 0
  attractScene : Option SceneIx := none
deriving DecidableEq, Repr

/-! ## Light and gain levels, fades and light groups -/

/-- A universe watch entry (R56). -/
structure Watch where
  uni : Option UniverseIx := none
  image : Vector Byte 256 := Vector.replicate 256 0
  received : Bool := false
  updated : Time := 0
  stale : Bool := false
  deadline : Option Time := none
deriving DecidableEq, Repr

/-- The 17 points of a curve (4.2). -/
abbrev Curve := Vector Nat 17

/-- The identity points (R61, R74): P(i) = 4,096 i for i up to 15, and P16 = 65,535. -/
def identityCurve : Curve :=
  ⟨⟨[0, 4096, 8192, 12288, 16384, 20480, 24576, 28672, 32768, 36864, 40960, 45056, 49152, 53248, 57344, 61440,
    65535]⟩, rfl⟩

/-- Fade states (R76). -/
inductive FadeState | atBase | fading | holding | frozen
deriving DecidableEq, Repr

/-- Where a fade ends (R76). -/
inductive Target | fixed (level : Nat) | base
deriving DecidableEq, Repr

/-- A fade record (R76). -/
structure FadeRec where
  state : FadeState := .atBase
  start : Nat := 0
  target : Target := .base
  t0 : Time := 0
  duration : Nat := 1
  remaining : Nat := 0
  deadline : Option Time := none
deriving DecidableEq, Repr

/-- A light group (R83). -/
structure Group where
  members : List (LineIx × SlotIx) := []
  owner : Option InstIx := none
deriving DecidableEq, Repr

/-! ## Triggers -/

/-- A trigger entry's action with its operand; NONE and CUE keep an operand byte they do not use (R91). -/
inductive TrigAction
  | none (operand : Byte)
  | start (scene : SceneIx)
  | stop (scene : SceneIx)
  | cue (operand : Byte)
  | enter (bay : BayIx)
  | leave (bay : BayIx)
  | intrusion (bay : BayIx)
deriving DecidableEq, Repr

/-- A trigger entry (R91). `active` is the notified level. -/
structure TrigEntry where
  action : TrigAction := .none 0
  line : LineIx := 0
  slot : SlotIx := 0
  bit : BitIx := 0
  edge : Edge := .rise
  allowance : Nat := 1
  report : Bool := false
  credit : Nat := 1
  dropped : Nat := 0
  active : Bool := false
deriving DecidableEq, Repr

/-! ## Scenes, instances and cues -/

/-- A scene's flags, in the order of their bits (7.1). -/
structure SceneFlags where
  attract : Bool := false
  live : Bool := false
  safety : Bool := false
  restart : Bool := false
  holdAbort : Bool := false
  report : Bool := false
deriving DecidableEq, Repr

/-- A scene record (7.1). The ready time is held as a deadline exactly while the cooling flag is set (R108). -/
structure Scene where
  bay : BayIx := 0
  priority : Fin 8 := 0
  flags : SceneFlags := {}
  release : Nat := 0
  cooldown : Nat := 0
  waitLimit : Nat := 0
  first : CueIx := 0
  groups : List GroupIx := []
  zones : List ZoneIx := []
  axes : List AxisIx := []
  ready : Time := 0
  cooling : Bool := false
deriving DecidableEq, Repr

/-- Instance states (R106). -/
inductive InstState | free | running | suspended
deriving DecidableEq, Repr

/-- What a wait waits for (R127). -/
inductive WaitOn | trigger (entry : TrigIx) | motion (axis : AxisIx) | clip (zone : ZoneIx)
deriving DecidableEq, Repr

/-- What happens at a wait's timeout (R142). -/
inductive TimeoutAction | next | endIt
deriving DecidableEq, Repr

/-- A held wait (R127). -/
structure Wait where
  on : WaitOn
  deadline : Option Time
  action : TimeoutAction
deriving DecidableEq, Repr

/-- An instance record (7.2, R127). -/
structure Inst where
  state : InstState := .free
  scene : SceneIx := 0
  origin : Origin := .command
  start : Time := 0
  cue : CueIx := 0
  due : Option Time := none
  wait : Option Wait := none
  loopOwner : Option CueIx := none
  loopCount : Nat := 0
  remDue : Option Nat := none
  remWait : Option Nat := none
deriving DecidableEq, Repr

/-- A wait-list entry (7.4). -/
structure WaitEntry where
  scene : SceneIx
  origin : Origin
  priority : Fin 8
  enqueued : Time
  expiry : Time
deriving DecidableEq, Repr

/-- A cue's kind and operands (R128). A LIGHT record keeps its level bytes when its target is BASE. -/
inductive CueKind
  | light (group : GroupIx) (base : Bool) (level fade : Nat)
  | voice (zone : ZoneIx) (clip : Nat)
  | move (axis : AxisIx) (target speed : Nat)
  | waitTrigger (entry : TrigIx) (timeout : Nat) (action : TimeoutAction)
  | waitMotion (axis : AxisIx) (timeout : Nat) (action : TimeoutAction)
  | waitClip (zone : ZoneIx) (timeout : Nat) (action : TimeoutAction)
  | jump (target count : Nat)
  | endScene
  | unknown (code : Byte) (operands : List Byte)
deriving DecidableEq, Repr

/-- A cue record (R128). -/
structure CueRec where
  delay : Nat := 0
  kind : CueKind := .endScene
deriving DecidableEq, Repr

/-! ## Narration -/

/-- Clip states (R157). -/
inductive ClipState | none | expecting | playing | done
deriving DecidableEq, Repr

/-- A speaker zone (9.2) with its three queues (R152). -/
structure Zone where
  bay : BayIx := 0
  line : LineIx := 0
  node : NodeIx := 0
  bedSlot : Option (LineIx × SlotIx) := none
  duckLevel : Nat := 0
  duckTime : Nat := 250
  restoreTime : Nat := 1000
  pace : Nat := 0
  limit : Nat := 64
  pauseLevel : Nat := 48
  resumeLevel : Nat := 16
  ambientEnable : Bool := false
  owner : Option InstIx := none
  clip : Nat := 0
  clipState : ClipState := .none
  usage : Nat := 0
  paused : Bool := false
  voiceActive : Bool := false
  voiceNext : Option Time := none
  bedNext : Option Time := none
  drops : Nat := 0
  announceQ : List Chunk := []
  sceneQ : List Chunk := []
  ambientQ : List Chunk := []
deriving DecidableEq, Repr

/-- The pool and the Narration Buffer's own counts (9). -/
structure Pool where
  free : Nat := 1536
  lastServed : Vector (Option ZoneIx) 6 := Vector.replicate 6 none
  unknownZone : Nat := 0
deriving DecidableEq, Repr

/-! ## Model motion -/

/-- Axis states (10.2). -/
inductive AxisState | unsynced | idle | moving | stopped
deriving DecidableEq, Repr

/-- The colours of a metered move (R176). -/
inductive Colour | green | yellow | red
deriving DecidableEq, Repr

/-- An axis record (10, 10.2). `pos` is the commanded position at rest; along a move it follows from the move fields
(R178). -/
structure Axis where
  bay : BayIx := 0
  setpoint : LineIx × SlotIx := (0, 0)
  feedback : Option (LineIx × SlotIx) := none
  kl : Nat := 0
  sl : Nat := 0
  su : Nat := 65535
  ku : Nat := 65535
  maxSpeed : Nat := 1000
  slowSpeed : Nat := 250
  defaultSpeed : Nat := 500
  tolerance : Nat := 0
  faultCount : Nat := 3
  cbs : Nat := 0
  ebs : Nat := 0
  rate : Nat := 0
  holdBay : Bool := false
  state : AxisState := .unsynced
  pos : Nat := 0
  lastSent : Option Nat := none
  moveFrom : Nat := 0
  moveTo : Nat := 0
  speed : Nat := 0
  moveStart : Time := 0
  duration : Nat := 0
  deadline : Option Time := none
  c : Nat := 0
  e : Nat := 0
  residue : Nat := 0
  refilled : Time := 0
  refillDeadline : Time := 600000
  following : Nat := 0
  clamps : Nat := 0
  colour : Option Colour := none
  owner : Option InstIx := none
deriving DecidableEq, Repr

/-! ## The whole part -/

/-- The state of the part. `pending` is the model's queue of commands to come, first in, first out; `choices` counts
the free choices taken (log entry 3); every other field is the manual's. -/
structure State where
  pending : List Instr := []
  trunk : Trunk := {}
  cmd : CommandUnit := {}
  params : Params := {}
  lines : Vector LineEngine 6 := Vector.replicate 6 {}
  bays : Vector Bay 16 := Vector.replicate 16 {}
  watch : Vector Watch 8 := Vector.replicate 8 {}
  curves : Vector Curve 8 := Vector.replicate 8 identityCurve
  curvesInForce : Vector (Vector Curve 8) 6 := Vector.replicate 6 (Vector.replicate 8 identityCurve)
  parks : Vector (Vector (Option Nat) 48) 6 := Vector.replicate 6 (Vector.replicate 48 none)
  fades : Vector (Vector FadeRec 48) 6 := Vector.replicate 6 (Vector.replicate 48 {})
  groups : Vector Group 64 := Vector.replicate 64 {}
  triggers : Vector TrigEntry 128 := Vector.replicate 128 {}
  throttle : Time := 2000
  scenes : Vector Scene 96 := Vector.replicate 96 {}
  insts : Vector Inst 12 := Vector.replicate 12 {}
  waitList : List WaitEntry := []
  cues : Vector CueRec 2048 := Vector.replicate 2048 {}
  zones : Vector Zone 24 := Vector.replicate 24 {}
  pool : Pool := {}
  axes : Vector Axis 24 := Vector.replicate 24 {}
  checks : CheckUnit := {}
  choices : Nat := 0
deriving DecidableEq, Repr

/-- Every block at its cold-reset values, before the STARTED report is placed (R17). -/
def State.blank : State := {}

/-- The STARTED report of a cold reset (R17, R191). -/
def coldStarted (station : StationIx) : OwnFrame :=
  .report { showTime := 0, lost := 0, body := .started true 0 .severe {} (station == 63) }

/-- The part after a cold reset with the given strapping: every block at its cold-reset values, and the STARTED report
first in the own queue (R17, R195). -/
def State.cold (strap : StationIx) : State :=
  { State.blank with trunk := { State.blank.trunk with station := strap, own := [coldStarted strap] } }

/-- The machine right after a cold reset. The manual gives the address lines no value: station 0 (log entry 5). -/
def State.reset : State := State.cold 0

end Sys2Proof.Machine
end

