-- ==== Sys2Proof/Machine/Ops.lean ====
section
/-! DEFINITION. The named operations every block uses: reading and writing one record of a table, part time and
deadlines (R8), saturating counts, walks over an index range, the free order of two acts of one event (log entry 3),
and the trunk queues (R4 to R7). -/

namespace Sys2Proof.Machine

/-! ## Tables -/

/-- A table with one record changed. -/
def upd {α : Type} {n : Nat} (v : Vector α n) (i : Fin n) (f : α → α) : Vector α n := v.set i (f v[i])

/-- A table with every record changed the same way. -/
def mapAll {α β : Type} {n : Nat} (f : α → β) (v : Vector α n) : Vector β n := ⟨⟨v.toList.map f⟩, by simp⟩

/-- The table whose record at each index is given. -/
def tabulate {α : Type} (n : Nat) (f : Fin n → α) : Vector α n := ⟨⟨(List.finRange n).map f⟩, by simp⟩

/-- Act on every index of a range, in ascending order. -/
def overAll (n : Nat) (f : Fin n → State → State) (s : State) : State := (List.finRange n).foldl (fun t i => f i t) s

/-- Act on every element of a list, in its order. -/
def overList {α : Type} (l : List α) (f : α → State → State) (s : State) : State := l.foldl (fun t x => f x t) s

/-- Act on every element of a list, in its order, gathering what each act hands back. -/
def gather {α β : Type} (l : List α) (f : α → State → State × List β) (s : State) : State × List β :=
  l.foldl (fun t x => let r := f x t.1; (r.1, t.2 ++ r.2)) (s, [])

/-- The index a number names, when it lies in the range. -/
def index? (n : Nat) (k : Nat) : Option (Fin n) := if h : k < n then some ⟨k, h⟩ else none

/-! ## One record of the state -/

/-- Change the Trunk Port. -/
def State.modTrunk (s : State) (f : Trunk → Trunk) : State := { s with trunk := f s.trunk }
/-- Change the Command Unit. -/
def State.modCmd (s : State) (f : CommandUnit → CommandUnit) : State := { s with cmd := f s.cmd }
/-- Change one Line Engine. -/
def State.modLine (s : State) (l : LineIx) (f : LineEngine → LineEngine) : State := { s with lines := upd s.lines l f }
/-- Change one bay record. -/
def State.modBay (s : State) (b : BayIx) (f : Bay → Bay) : State := { s with bays := upd s.bays b f }
/-- Change one watch entry. -/
def State.modWatch (s : State) (w : WatchIx) (f : Watch → Watch) : State := { s with watch := upd s.watch w f }
/-- Change one fade record. -/
def State.modFade (s : State) (l : LineIx) (k : SlotIx) (f : FadeRec → FadeRec) : State :=
  { s with fades := upd s.fades l (fun row => upd row k f) }
/-- Write one park. -/
def State.setPark (s : State) (l : LineIx) (k : SlotIx) (p : Option Nat) : State :=
  { s with parks := upd s.parks l (fun row => row.set k p) }
/-- Change one light group. -/
def State.modGroup (s : State) (g : GroupIx) (f : Group → Group) : State := { s with groups := upd s.groups g f }
/-- Change one trigger entry. -/
def State.modTrig (s : State) (t : TrigIx) (f : TrigEntry → TrigEntry) : State :=
  { s with triggers := upd s.triggers t f }
/-- Change one scene record. -/
def State.modScene (s : State) (c : SceneIx) (f : Scene → Scene) : State := { s with scenes := upd s.scenes c f }
/-- Change one instance record. -/
def State.modInst (s : State) (i : InstIx) (f : Inst → Inst) : State := { s with insts := upd s.insts i f }
/-- Write the wait list. -/
def State.setWaitList (s : State) (l : List WaitEntry) : State := { s with waitList := l }
/-- Change one speaker zone. -/
def State.modZone (s : State) (z : ZoneIx) (f : Zone → Zone) : State := { s with zones := upd s.zones z f }
/-- Change the pool. -/
def State.modPool (s : State) (f : Pool → Pool) : State := { s with pool := f s.pool }
/-- Change one axis. -/
def State.modAxis (s : State) (a : AxisIx) (f : Axis → Axis) : State := { s with axes := upd s.axes a f }
/-- Change the Check Unit. -/
def State.modChecks (s : State) (f : CheckUnit → CheckUnit) : State := { s with checks := f s.checks }
/-- Count one free choice taken. -/
def State.choose (s : State) : State := { s with choices := s.choices + 1 }

/-- The fade record of a slot position. -/
def State.fade (s : State) (l : LineIx) (k : SlotIx) : FadeRec := (s.fades[l])[k]
/-- The in-force record of a slot. -/
def State.slot (s : State) (l : LineIx) (k : SlotIx) : SlotRec := (s.lines[l]).inForce[k]
/-- The loaded record of a slot. -/
def State.loadedSlot (s : State) (l : LineIx) (k : SlotIx) : SlotRec := (s.lines[l]).loaded[k]
/-- The state of a bay. -/
def State.bayState (s : State) (b : BayIx) : BayState := (s.bays[b]).state
/-- The scene an instance runs. -/
def State.sceneOf (s : State) (i : InstIx) : Scene := s.scenes[(s.insts[i]).scene]

/-! ## Part time, show time and deadlines (R8) -/

/-- Part time. -/
def State.now (s : State) : Time := s.trunk.now
/-- Show time: part time plus the show-time offset (R8). -/
def State.showTime (s : State) : Time := s.trunk.now + s.trunk.offset
/-- Whether a deadline is reached: part time minus deadline, modulo 2^32, below 2^31 (R8). -/
def reached (now d : Time) : Bool := decide ((now - d).toNat < 2147483648)
/-- Whether a deadline is held and reached. -/
def expired (now : Time) (d : Option Time) : Bool := d.any (reached now)
/-- The part time a number of milliseconds ahead. -/
def later (now : Time) (ms : Nat) : Time := now + BitVec.ofNat 32 ms
/-- The milliseconds from one part time to another, modulo 2^32. -/
def since (now t : Time) : Nat := (now - t).toNat
/-- The time a deadline still has to run, or 0 when it has been reached (R144). -/
def remainingTo (now d : Time) : Nat := if reached now d then 0 else since d now

/-! ## Numbers -/

/-- One more, stopping at the upper bound (00_scope, "saturating"). -/
def satInc (max n : Nat) : Nat := min (n + 1) max
/-- A number brought into a range (00_scope, "clamped"). -/
def clampTo (lo hi n : Nat) : Nat := max lo (min hi n)
/-- The quotient rounded up. -/
def ceilDiv (a b : Nat) : Nat := (a + (b - 1)) / b
/-- The distance between two positions. -/
def dist (a b : Nat) : Nat := (a - b) + (b - a)

/-! ## The free order of two acts of one event (log entry 3) -/

/-- Do two acts of one event in the order a free value picks. -/
def eitherOrder (f g : State → State) (s : State) : State :=
  match Config.actOrder s.choices with
  | true => g (f s.choose)
  | false => f (g s.choose)

/-! ## The Trunk Port -/

/-- Whether port A may start a frame: UP and idle (R6). -/
def Trunk.aIdle (t : Trunk) : Bool := t.linkA == .up && t.sendingA.isNone

/-- The station byte the part's own frames carry: its own address, 63 for a listener (R11, R190). -/
def Trunk.stationByte (t : Trunk) : Byte := BitVec.ofNat 8 t.station.val

end Sys2Proof.Machine
end

