-- ==== Sys2Proof/Machine/Upstream.lean ====
section
/-! DEFINITION. The bytes of the part's own upstream frames: ANSWER and REPORT payloads (layout 12.4, R190, R191, R196).
Codes that the layouts chapter leaves to "the position of its value in the list where the owning chapter first gives
the list" (R196) are the constructors' positions; log entry 9 names the lists that are not in one place. -/

namespace Sys2Proof.Machine

/-- One byte of a number. -/
def byte (n : Nat) : Byte := BitVec.ofNat 8 n
/-- A lone flag as a byte. R196 codes enumerations, sets and numbers and no single flag: a flag that stands alone in a READ
entry or a report is one byte, 01h when set and 00h when clear (DESIGN CHOICE, unsafe, log entry 45). -/
def flag (b : Bool) : Byte := if b then 1 else 0
/-- An index that may be none, in one byte: FFh for none (R196). -/
def optByte {n : Nat} (i : Option (Fin n)) : Byte := match i with | some k => byte k.val | none => 0xFF
/-- A number that may be none, in two bytes: FFFFh for none (R196). -/
def optBytes2 (i : Option Nat) : List Byte := match i with | some k => toBytes2 k | none => [0xFF, 0xFF]
/-- A deadline that may be none: a presence byte and the four-byte time, 0 when there is none (R196, log entry 7). -/
def optTime (d : Option Time) : List Byte := match d with | some t => 1 :: toBytes4 t | none => [0, 0, 0, 0, 0]
/-- The three bytes of a fade time (12.3). -/
def toBytes3 (n : Nat) : List Byte := [byte (n / 65536), byte (n / 256), byte n]
/-- The four bytes of a number. -/
def numBytes4 (n : Nat) : List Byte := toBytes4 (BitVec.ofNat 32 n)

/-- Code of a port: A, B. -/
def portCode : Port → Byte | .a => 0 | .b => 1
/-- Code of a link state, "UP or DOWN" (1). -/
def Link.code : Link → Byte | .up => 0 | .down => 1
/-- Code of a bay state (R196). -/
def BayState.code : BayState → Byte | .dark => 0 | .attract => 1 | .live => 2 | .hold => 3 | .service => 4
/-- Code of a transition cause (R52). -/
def BayCause.code : BayCause → Byte
  | .opened => 0 | .closed => 1 | .serviced => 2 | .held => 3 | .released => 4 | .entered => 5 | .linger => 6
  | .sensor => 7 | .sensorClear => 8 | .fault => 9
/-- Code of an origin (7.2). -/
def Origin.code : Origin → Byte | .trigger => 0 | .bay => 1 | .command => 2
/-- Code of a status (12.4). -/
def Status.code : Status → Byte
  | .ok => 0 | .badFrame => 1 | .badTable => 2 | .badIndex => 3 | .inUse => 4 | .refused => 5 | .busy => 6
/-- Code of a refusal reason (R11). -/
def RefuseReason.code : RefuseReason → Byte
  | .bayClosed => 0 | .bayState => 1 | .cooldown => 2 | .alreadyRunning => 3 | .alreadyWaiting => 4 | .conflict => 5
  | .noInstance => 6 | .waitFull => 7 | .notDefined => 8
/-- Code of a skip reason (12.4). -/
def SkipReason.code : SkipReason → Byte | .inUse => 0 | .badValue => 1
/-- Code of a check class (11.1). -/
def CheckClass.code : CheckClass → Byte
  | .link => 0 | .relay => 1 | .node => 2 | .reply => 3 | .stale => 4 | .cue => 5 | .pool => 6 | .axis => 7
/-- Code of a severity (11.1). -/
def Severity.code : Severity → Byte | .notice => 0 | .severe => 1 | .fatal => 2
/-- Code of a trunk queue, in the order of the Trunk Port's items (1). -/
def TrunkQueue.code : TrunkQueue → Byte | .bOut => 0 | .own => 1 | .relay => 2
/-- Code of a failed cue test, in the order of R132. -/
def CueTest.code : CueTest → Byte
  | .outside => 0 | .unknownKind => 1 | .group => 2 | .zone => 3 | .axis => 4 | .safetyMove => 5
/-- Code of a drop reason, in the order of R153 to R155. -/
def PoolReason.code : PoolReason → Byte
  | .unknownZone => 0 | .badClass => 1 | .unclaimed => 2 | .ambientOff => 3 | .reserve => 4 | .poolFull => 5
  | .zoneLimit => 6
/-- Code of an axis fault cause (11.1). -/
def AxisCause.code : AxisCause → Byte | .following => 0 | .feedbackLost => 1
/-- Code of an edge (R91). -/
def Edge.code : Edge → Byte | .rise => 0 | .fall => 1
/-- Code of a trigger action (R91). -/
def ActionKind.code : ActionKind → Byte
  | .none => 0 | .start => 1 | .stop => 2 | .cue => 3 | .enter => 4 | .leave => 5 | .intrusion => 6
/-- Code of an end cause (R120). -/
def EndCause.code : EndCause → Byte
  | .endCue => 0 | .aborted => 1 | .cue => 2 | .fault => 3 | .stopped => 4 | .preempted => 5 | .bay => 6
/-- Code of a removal reason (R124). -/
def RemoveReason.code : RemoveReason → Byte | .expired => 0 | .bayClosed => 1 | .bayState => 2 | .stopped => 3
/-- Code of a move refusal (R137). -/
def MoveDenied.code : MoveDenied → Byte | .unsynced => 0 | .stopped => 1 | .bayState => 2 | .budget => 3
/-- Code of a wait kind (R127). -/
def WaitKind.code : WaitKind → Byte | .trigger => 0 | .motion => 1 | .clip => 2
/-- Code of a reporting mode (12.2). -/
def Mode.code : Mode → Byte | .quiet => 0 | .fatal => 1 | .severe => 2 | .all => 3

/-- A set of hold causes as a byte of flags (R196). -/
def HoldCauses.byte (h : HoldCauses) : Byte :=
  flag h.sensor ||| (flag h.command <<< 1) ||| (flag h.fault <<< 2)
/-- The kind mask as a byte of flags (12.2). -/
def KindMask.byte (m : KindMask) : Byte :=
  flag m.trigger ||| (flag m.scene <<< 1) ||| (flag m.bay <<< 2) ||| (flag m.pace <<< 3) ||| (flag m.check <<< 4)

/-- The class of a check, fixed by what it names (11.1). -/
def CheckObject.cls : CheckObject → CheckClass
  | .port _ => .link
  | .queue _ => .relay
  | .node _ _ => .node
  | .reply _ _ _ => .reply
  | .watch _ _ => .stale
  | .cue _ _ _ _ => .cue
  | .chunk _ _ _ _ _ => .pool
  | .axis _ _ => .axis

/-- The severity a class fixes (11.1). -/
def CheckClass.severity : CheckClass → Severity
  | .node | .cue => .severe
  | .axis => .fatal
  | .link | .relay | .reply | .stale | .pool => .notice

/-- The severity of a check. -/
def Check.severity (c : Check) : Severity := c.object.cls.severity

/-- The bytes of a check's object, its fields in the order of 11.1. The manual codes the three chunk classes and not the
class of a POOL check on a chunk whose class code names none: the object carries the class byte of the BLOCK payload as
it came (DESIGN CHOICE, unsafe, log entry 42). -/
def CheckObject.bytes : CheckObject → List Byte
  | .port p => [portCode p]
  | .queue q => [q.code]
  | .node l n => [byte l.val, byte n.val]
  | .reply l k n => [byte l.val, byte k.val, byte n.val]
  | .watch w u => byte w.val :: optBytes2 (u.map (·.val))
  | .cue c i x t => byte c.val :: byte i.val :: (toBytes2 x ++ [t.code])
  | .chunk z cls clip seq r => byte z :: cls :: (toBytes2 clip ++ toBytes2 seq ++ [r.code])
  | .axis a c => [byte a.val, c.code]

/-- The outcome bytes of a TRIGGER report; WAIT_MET carries its number of waits (R102). -/
def TrigOutcome.bytes : TrigOutcome → List Byte
  | .waitMet n => [0, byte n]
  | .startSent => [1]
  | .stopSent => [2]
  | .noAction => [3]
  | .counted => [4]
  | .active => [5]
  | .inactive => [6]
  | .unmatched => [7]

/-- The event and detail bytes of a SCENE report (R124, R146). -/
def SceneEvent.bytes : SceneEvent → List Byte
  | .admitted => [0]
  | .waiting => [1]
  | .refused r => [2, r.code]
  | .restarted => [3]
  | .ended c none => [4, c.code]
  | .ended c (some p) => [4, c.code, byte p.val]
  | .waitRemoved r => [5, r.code]
  | .moveDenied k a r => 6 :: (toBytes2 k.val ++ [byte a.val, r.code])
  | .waitTimeout k w => 7 :: (toBytes2 k.val ++ [w.code])
  | .suspended => [8]
  | .resumed => [9]

/-- The kind code of a report (12.4). -/
def ReportBody.code : ReportBody → Byte
  | .trigger _ _ _ _ _ _ _ => 1
  | .scene _ _ _ _ => 2
  | .bay _ _ _ _ _ _ _ => 3
  | .pace _ _ _ _ => 4
  | .check _ _ => 5
  | .started _ _ _ _ _ => 6

/-- The body of a report, its fields in the order of the rule that produces it (R190, R191). -/
def ReportBody.bytes : ReportBody → List Byte
  | .trigger e l k b g a o =>
    [optByte e, byte l.val, byte k.val, byte b.val, (match g with | some x => x.code | none => 0xFF),
      (match a with | some x => x.code | none => 0xFF)] ++ o.bytes
  | .scene c i o e => [byte c.val, optByte i, o.code] ++ e.bytes
  | .bay b old new cause causes occ n =>
    [byte b.val, old.code, new.code, cause.code, causes.byte, byte occ, byte n]
  | .pace z slow u f => [byte z.val, flag (!slow)] ++ toBytes2 u ++ toBytes2 f
  | .check c n => [c.object.cls.code, c.severity.code] ++ c.object.bytes ++ toBytes4 c.time ++ [optByte c.inst, byte n]
  | .started cold t m k li => [flag (!cold)] ++ toBytes4 t ++ [m.code, k.byte, flag li]

/-- The detail of an answer (12.4). -/
def Detail.bytes : Detail → List Byte
  | .none => []
  | .inst i => [byte i.val]
  | .waiting => [0xFE]
  | .stopped acted => [if acted then 0x00 else 0xFF]
  | .bayState b => [b.code]
  | .read t l first count entries => [t, l] ++ toBytes2 first ++ toBytes2 count ++ entries
  | .skipped first n r => toBytes2 first ++ toBytes2 n ++ [r.code]
  | .refused r => [r.code]

/-- The payload of an own frame (12.4). -/
def OwnFrame.payload : OwnFrame → List Byte
  | .answer a => [a.tag, a.code, a.status.code] ++ a.detail.bytes
  | .report r => [r.body.code, byte r.lost] ++ toBytes4 r.showTime ++ r.body.bytes

/-- The trunk frame of an answer or a report, with the check word its builder gives it (R6, R11, R190). -/
def OwnFrame.frame (station : Byte) (f : OwnFrame) : Frame :=
  match f with
  | .answer _ => Frame.build kindAnswer station f.payload
  | .report _ => Frame.build kindReport station f.payload

/-- The 28-bit down word of a slot period: type, node, slot and value, with even parity sent last (12.5). A quiet
period sends none. -/
def Content.downWord (slot : SlotIx) (c : Content) : Option (BitVec 28) :=
  let word (w : Nat) : BitVec 28 :=
    BitVec.ofNat 28 (w * 2 + ((List.range 27).filter (fun k => w.testBit k)).length % 2)
  match c with
  | .quiet => none
  | .value n v => some (word (n.val * 4194304 + slot.val * 65536 + v))
  | .poll n => some (word (67108864 + n.val * 4194304 + slot.val * 65536))

/-- The 16-bit chunk header: node, stream and byte length (12.5, R34). -/
def Carried.header (c : Carried) : BitVec 16 :=
  BitVec.ofNat 16 (c.node.val * 4096 + (match c.chunk.cls with | .ambient => 2048 | _ => 0) + c.chunk.audio.length)

end Sys2Proof.Machine
end

