-- ==== Sys2Proof/Machine/Flags.lean ====
section
/-! DEFINITION. The A-out own queue and the Check Unit: the arbiter (R6), placing frames (R7), offering reports (R190),
recording checks with their flags, counts and context (R187, R188), and reporting them (R189). -/

namespace Sys2Proof.Machine

/-- The arbiter's choice when both queues hold frames or one does: the queue other than last served, or the one that
holds a frame (R6). -/
def Trunk.choice (t : Trunk) : Option Served :=
  match t.own, t.relay with
  | [], [] => none
  | _ :: _, [] => some .own
  | [], _ :: _ => some .relay
  | _ :: _, _ :: _ => some (match t.lastServed with | .own => .relay | .relay => .own)

/-- Start the next frame on port A, when it is UP and idle and a queue holds one (R6). The frame leaves its queue as it
starts. -/
def Trunk.arbitrate (t : Trunk) : Trunk :=
  if t.aIdle then
    match t.choice, t.own, t.relay with
    | some .own, f :: rest, _ =>
      { t with own := rest, sendingA := some (f.frame t.stationByte), lastServed := .own }
    | some .relay, _, f :: rest => { t with relay := rest, sendingA := some f, lastServed := .relay }
    | _, _, _ => t
  else t

/-- Place a frame in the own queue, which has room, and start it at once when port A is idle (R6, R7). -/
def State.placeOwn (s : State) (f : OwnFrame) : State :=
  s.modTrunk (fun t => Trunk.arbitrate { t with own := t.own ++ [f] })

/-- Whether the own queue has room (R7). -/
def State.ownRoom (s : State) : Bool := decide (s.trunk.own.length < Config.ownMax)

/-- Whether the report-kind mask lets a report through; a STARTED report passes whatever the mask (R190). -/
def KindMask.allows (m : KindMask) : ReportBody → Bool
  | .trigger _ _ _ _ _ _ _ => m.trigger
  | .scene _ _ _ _ => m.scene
  | .bay _ _ _ _ _ _ _ => m.bay
  | .pace _ _ _ _ => m.pace
  | .check _ _ => m.check
  | .started _ _ _ _ _ => true

/-- Offer a report: masked, or placed with the lost-report count, or dropped and counted (R190). -/
def offerReport (body : ReportBody) (s : State) : State :=
  if s.checks.mask.allows body then
    if s.ownRoom then
      (s.placeOwn (.report { showTime := s.showTime, lost := s.checks.lost, body := body })).modChecks
        (fun c => { c with lost := 0 })
    else s.modChecks (fun c => { c with lost := satInc 255 c.lost })
  else s

/-- Whether a reporting mode covers a severity (R189). -/
def Mode.covers : Mode → Severity → Bool
  | .quiet, _ => false
  | .fatal, v => v == .fatal
  | .severe, v => v == .severe || v == .fatal
  | .all, _ => true

/-- A severity's rank (11.1). -/
def Severity.rank : Severity → Nat | .notice => 0 | .severe => 1 | .fatal => 2

/-- The class record of a class. -/
def CheckClass.ix : CheckClass → Fin 8
  | .link => 0 | .relay => 1 | .node => 2 | .reply => 3 | .stale => 4 | .cue => 5 | .pool => 6 | .axis => 7

/-- The context after a check is recorded: replaced when empty or when the severity is equal or higher (R188). -/
def settleContext (old : Option Check) (c : Check) : Option Check :=
  match old with
  | none => some c
  | some o => if o.severity.rank ≤ c.severity.rank then some c else some o

/-- Record a check: its class's flag and count, and the context (R187, R188). -/
def CheckUnit.record (u : CheckUnit) (c : Check) : CheckUnit :=
  { u with
    classes := upd u.classes c.object.cls.ix (fun r => { seen := true, count := satInc 255 r.count })
    context := settleContext u.context c }

/-- Whether a placed report of this check lowers the mode to FATAL (R189). -/
def lowersMode (m : Mode) (v : Severity) : Bool := v == .fatal && (m == .severe || m == .all)

/-- Raise a check: record it, offer its CHECK report when the mode covers it, and lower the mode when the report of a
FATAL check was placed (R187, R188, R189). -/
def raiseCheck (object : CheckObject) (inst : Option InstIx) (s : State) : State :=
  let c : Check := { object := object, time := s.now, showTime := s.showTime, inst := inst }
  let s := s.modChecks (fun u => u.record c)
  let v := object.cls.severity
  if s.checks.mode.covers v then
    let placed := s.checks.mask.check && s.ownRoom
    let lower := lowersMode s.checks.mode v && placed
    let s := offerReport (.check c (s.checks.classes[object.cls.ix]).count) s
    if lower then s.modChecks (fun u => { u with mode := .fatal }) else s
  else s

/-- Relay a frame out of port B: discarded while port B is DOWN, dropped and counted when the queue is full (R1, R4). -/
def relayDown (f : Frame) (s : State) : State :=
  match s.trunk.linkB with
  | .down => s
  | .up =>
    if s.trunk.bOut.length < Config.bOutMax then s.modTrunk (fun t => { t with bOut := t.bOut ++ [f] })
    else
      raiseCheck (.queue .bOut) none
        (s.modTrunk (fun t => { t with downDrops := satInc Config.countMax t.downDrops }))

/-- Offer the answer of the command at the head: placed at once, and the command leaves the queue; or it waits, and the
command stays (R10). -/
def offerAnswer (a : Answer) (s : State) : State :=
  if s.ownRoom then (s.placeOwn (.answer a)).modCmd (fun c => { c with queue := c.queue.tail })
  else s.modCmd (fun c => { c with waiting := some a })

end Sys2Proof.Machine
end

