-- ==== Sys2Proof/Machine/Level.lean ====
section
/-! DEFINITION. The level computation: base, working level, master, floor, curve and ceiling (R62 to R70). It reads the
state and writes nothing. -/

namespace Sys2Proof.Machine

/-- Stage 1: the base of a slot record (R63). -/
def baseLevel (s : State) (r : SlotRec) : Nat :=
  match r.patch with
  | none => 0
  | some (w, ch) => if (s.watch[w]).received then ((s.watch[w]).image[ch]).toNat * 257 else 0

/-- The target level of a fade: a FIXED level, or the base at this instant (R64). -/
def Target.level (t : Target) (b : Nat) : Nat := match t with | .fixed n => n | .base => b

/-- The time a fade has run, limited to its duration (R64). -/
def FadeRec.elapsed (f : FadeRec) (now : Time) : Nat := min (since now f.t0) f.duration

/-- The signed step of a running fade, added to its start level: rounded to the nearest, halves away from the start
level (R64). -/
def fadeAt (start target e d : Nat) : Nat :=
  if start < target then start + ((target - start) * e + d / 2) / d
  else start - ((start - target) * e + d / 2) / d

/-- Stage 2, first half: the fade level Fv of a record that is not AT_BASE (R64). -/
def FadeRec.level (f : FadeRec) (b : Nat) (now : Time) : Nat :=
  match f.state with
  | .atBase => b
  | .fading => fadeAt f.start (f.target.level b) (f.elapsed now) f.duration
  | .holding => f.target.level b
  | .frozen => f.start

/-- Stage 2, second half: the working level W from the base, the fade record and the merge field (R65). -/
def mergeLevel (m : Merge) (b : Nat) (f : FadeRec) (now : Time) : Nat :=
  match f.state, m with
  | .atBase, _ => b
  | _, .take => f.level b now
  | _, .highest => max b (f.level b now)

/-- The working level of a slot at this instant, from its in-force record and its watch entry; a park does not change it
(R65, R72). -/
def workingLevel (s : State) (l : LineIx) (k : SlotIx) : Nat :=
  mergeLevel (s.slot l k).merge (baseLevel s (s.slot l k)) (s.fade l k) s.now

/-- The effective master of a bay for a slot kind (R66). -/
def Bay.master (b : Bay) (gain : Bool) : Nat :=
  match b.state, gain with
  | .dark, _ => 0
  | _, true => b.audioMaster
  | .attract, false => b.attractMaster
  | .live, false => b.liveMaster
  | .hold, false => b.liveMaster
  | .service, false => 255

/-- Stage 3: the level scaled by the master (R66). -/
def scaled (w m : Nat) : Nat := (w * m + 127) / 255

/-- Whether the work floor applies in a bay state (R68). -/
def BayState.floored : BayState → Bool
  | .dark | .hold | .service => true
  | .attract | .live => false

/-- Stage 4: the work floor, for a LEVEL slot with the work-light flag (R68). -/
def flooredLevel (r : SlotRec) (b : Bay) (l1 : Nat) : Nat :=
  if r.kind = .level ∧ r.workLight = true ∧ b.state.floored = true then max l1 b.workFloor else l1

/-- A point of a curve. -/
def Curve.point (c : Curve) (i : Nat) : Nat := c.toList.getD i 0

/-- Stage 5 for a loaded curve: the straight line between two points, its quotient floored toward minus infinity
(R69). -/
def Curve.shape (c : Curve) (x : Nat) : Nat :=
  let k := x / 4096
  let f := x % 4096
  let d : Int := (c.point (k + 1) : Int) - (c.point k : Int)
  ((c.point k : Int) + (d * (f : Int) + 2048) / 4096).toNat

/-- Stage 5: curve 0 is the identity, the others are the line's in-force curves (R69). -/
def shaped (curves : Vector Curve 8) (ix : CurveIx) (x : Nat) : Nat :=
  if ix = 0 then x else (curves[ix]).shape x

/-- The value an unparked LEVEL or GAIN slot sends at a frame start: all six stages (R62 to R70). -/
def slotValue (s : State) (l : LineIx) (k : SlotIx) : Nat :=
  let r := s.slot l k
  let bay := s.bays[r.bay]
  let l1 := scaled (workingLevel s l k) (bay.master (r.kind == .gain))
  min (shaped s.curvesInForce[l] r.curve (flooredLevel r bay l1)) r.ceiling

end Sys2Proof.Machine
end

