-- ==== Sys2Proof/Machine/Fade.lean ====
section
/-! DEFINITION. The Fade Unit: fade starts and ends, freezing and resuming, returns to base, group fades and releases
(R77 to R82, R85 to R88). -/

namespace Sys2Proof.Machine

/-- Whether a slot kind carries a level (R77). -/
def SlotKind.lit : SlotKind → Bool | .level | .gain => true | .off | .axis | .reply => false

/-- The state a fade ends in (R77, R78). -/
def Target.ended : Target → FadeState | .fixed _ => .holding | .base => .atBase

/-- The record of a fade from a level toward a target over a time: FADING, or ended within the request (R77). R77 says that a
FROZEN record loses its remaining time, and R76 that a field the state does not use keeps its value and is read as it stands:
the remaining-time field keeps its value here, without effect (DESIGN CHOICE, unsafe, log entry 43). -/
def FadeRec.begin (f : FadeRec) (start : Nat) (t : Target) (time : Nat) (now : Time) : FadeRec :=
  { f with
    state := if time = 0 then t.ended else .fading
    start := start
    target := t
    t0 := now
    duration := time
    deadline := if time = 0 then none else some (later now time) }

/-- A fade start request, its time taken as at most 600,000 ms; a slot whose in-force kind is not LEVEL or GAIN is
passed over (R77). -/
def fadeStart (l : LineIx) (k : SlotIx) (t : Target) (time : Nat) (s : State) : State :=
  if (s.slot l k).kind.lit then
    s.modFade l k (fun f => f.begin (workingLevel s l k) t (min time Config.longest) s.now)
  else s

/-- The end event of a fade record (R78). -/
def FadeRec.finish (f : FadeRec) : FadeRec := { f with state := f.target.ended, deadline := none }

/-- A record back at base, with no fade (R81, R82, R90). -/
def FadeRec.toBase (f : FadeRec) : FadeRec := { f with state := .atBase, deadline := none }

/-- A base request: at base at once, whatever the slot's kind (R82). -/
def baseRequest (l : LineIx) (k : SlotIx) (s : State) : State := s.modFade l k FadeRec.toBase

/-- Freeze one member when it is FADING: its working level and its remaining time are kept (R79). -/
def freezeMember (l : LineIx) (k : SlotIx) (s : State) : State :=
  if (s.fade l k).state = .fading then
    s.modFade l k (fun f =>
      { f with
        state := .frozen
        start := workingLevel s l k
        remaining := f.duration - f.elapsed s.now
        deadline := none })
  else s

/-- Resume one member when it is FROZEN: from its frozen level toward its kept target over its remaining time (R80). -/
def resumeMember (l : LineIx) (k : SlotIx) (s : State) : State :=
  if (s.fade l k).state = .frozen then
    s.modFade l k (fun f => f.begin f.start f.target f.remaining s.now)
  else s

/-- Release one member unless it is AT_BASE: a fade toward BASE over the release time (R87). -/
def releaseMember (time : Nat) (l : LineIx) (k : SlotIx) (s : State) : State :=
  if (s.fade l k).state = .atBase then s else fadeStart l k .base time s

/-- Act on every member of a group, in member order (R79, R80, R86, R87). -/
def overMembers (g : GroupIx) (f : LineIx → SlotIx → State → State) (s : State) : State :=
  overList (s.groups[g]).members (fun m => f m.1 m.2) s

/-- A freeze request for a group (R79). -/
def freezeGroup (g : GroupIx) (s : State) : State := overMembers g freezeMember s
/-- A resume request for a group (R80). -/
def resumeGroup (g : GroupIx) (s : State) : State := overMembers g resumeMember s
/-- A group fade request: one fade start per member, all with one part time (R86). -/
def groupFade (g : GroupIx) (t : Target) (time : Nat) (s : State) : State :=
  overMembers g (fun l k => fadeStart l k t time) s
/-- A release request for a group (R87). -/
def releaseGroup (g : GroupIx) (time : Nat) (s : State) : State := overMembers g (releaseMember time) s

end Sys2Proof.Machine
end

