-- ==== Sys2Proof/Machine/Waits.lean ====
section
/-! DEFINITION. Held waits and their completion: passing an instance to its next cue outside a due event (R133), and the
notices that complete waits (R141).

An instance whose next index lies outside cue memory meets an invalid cue at that event: its CUE check is raised here,
and the instance is handed back in a list, so that the block above ends it with cause CUE (R132, R133, log entry 10). -/

namespace Sys2Proof.Machine

/-- Raise the CUE check of an invalid cue (R132). -/
def cueInvalid (i : InstIx) (cue : Nat) (t : CueTest) (s : State) : State :=
  raiseCheck (.cue (s.insts[i]).scene i cue t) (some i) s

/-- Pass an instance to a cue index outside a due event: due after that cue's delay, at once for delay 0; an index
outside cue memory is an invalid cue (R133). -/
def passTo (i : InstIx) (next : Nat) (s : State) : State × List InstIx :=
  match index? 2048 next with
  | some k => (s.modInst i (fun n => { n with cue := k, due := some (later s.now (s.cues[k]).delay) }), [])
  | none => (cueInvalid i next .outside s, [i])

/-- Complete an instance's held wait: the wait and its deadline go, and the instance passes to the next cue (R141). -/
def completeWait (i : InstIx) (s : State) : State × List InstIx :=
  passTo i ((s.insts[i]).cue.val + 1) (s.modInst i (fun n => { n with wait := none }))

/-- Whether an instance is RUNNING and holds a wait on the object (R141). -/
def Inst.waitsOn (n : Inst) (on : WaitOn) : Bool := n.state == .running && n.wait.any (fun w => w.on == on)

/-- A notice: every RUNNING instance that waits on the object completes (R96, R141). The manual gives the instances no
order: they complete in ascending number (DESIGN CHOICE, unsafe, log entry 37). -/
def notify (on : WaitOn) (s : State) : State × List InstIx :=
  gather (List.finRange 12) (fun i t => if (t.insts[i]).waitsOn on then completeWait i t else (t, [])) s

end Sys2Proof.Machine
end

