-- ==== Sys2Proof/Machine/Narration.lean ====
section
/-! DEFINITION. The Narration Buffer: the pool and its chunks (R149), arrival (R153 to R156), clips and ownership (R157,
R158), the block window (R159 to R161), completion (R162, R163), flushes and a bay's entry to DARK (R165, R166). -/

namespace Sys2Proof.Machine

/-! ## Chunks and queues -/

/-- The pool blocks a chunk occupies (R149). -/
def Chunk.blocks (c : Chunk) : Nat := ceilDiv c.audio.length 96

/-- The blocks a queue's chunks hold. -/
def blocksOf (q : List Chunk) : Nat := (q.map Chunk.blocks).sum

/-- A zone's queue of a class (R152). -/
def Zone.queue (z : Zone) : ChunkClass → List Chunk
  | .announce => z.announceQ
  | .scene => z.sceneQ
  | .ambient => z.ambientQ

/-- A zone with a queue written. -/
def Zone.setQueue (z : Zone) (c : ChunkClass) (q : List Chunk) : Zone :=
  match c with
  | .announce => { z with announceQ := q }
  | .scene => { z with sceneQ := q }
  | .ambient => { z with ambientQ := q }

/-- Whether a zone's owner is an instance in RUNNING (R152). -/
def ownerRunning (s : State) (z : ZoneIx) : Bool :=
  match (s.zones[z]).owner with
  | some i => (s.insts[i]).state == .running
  | none => false

/-- Offer a PACE report of a zone: SLOW or GO, its usage and the pool's free count (R156). -/
def paceReport (z : ZoneIx) (slow : Bool) (s : State) : State :=
  offerReport (.pace z slow (s.zones[z]).usage s.pool.free) s

/-- After a completion or a flush: the pause flag clears and PACE GO is offered when the usage is below the resume
level (R156). -/
def paceGo (z : ZoneIx) (s : State) : State :=
  if (s.zones[z]).paused = true ∧ (s.zones[z]).usage < (s.zones[z]).resumeLevel then
    paceReport z false (s.modZone z (fun r => { r with paused := false }))
  else s

/-- Return blocks of a zone to the pool (R162, R165). -/
def returnBlocks (z : ZoneIx) (n : Nat) (s : State) : State :=
  (s.modPool (fun p => { p with free := p.free + n })).modZone z (fun r => { r with usage := r.usage - n })

/-- Flush a queue: its chunks go and their blocks return to the pool; an empty queue changes nothing (R165). -/
def flush (z : ZoneIx) (c : ChunkClass) (s : State) : State :=
  match (s.zones[z]).queue c with
  | [] => s
  | q => paceGo z (returnBlocks z (blocksOf q) (s.modZone z (fun r => r.setQueue c [])))

/-! ## Clips and ownership -/

/-- Set a zone's clip state; a change to DONE or NONE is handed to the Cue Engine (R157). -/
def setClipState (z : ZoneIx) (c : ClipState) (s : State) : State × List InstIx :=
  let t := s.modZone z (fun r => { r with clipState := c })
  if (s.zones[z]).clipState ≠ c ∧ (c = .done ∨ c = .none) then notify (.clip z) t else (t, [])

/-- A VOICE cue's expectation: a new clip flushes the SCENE queue, the same clip keeps it (R136, R157). -/
def expectClip (z : ZoneIx) (clip : Nat) (s : State) : State :=
  let r := s.zones[z]
  let s := if r.clipState = .none ∨ r.clip ≠ clip then flush z .scene s else s
  s.modZone z (fun r => { r with clip := clip, clipState := .expecting })

/-- The end of a zone's owner: clip state NONE, the SCENE queue flushed, no owner (R158). -/
def zoneOwnerEnds (z : ZoneIx) (s : State) : State × List InstIx :=
  let r := setClipState z .none s
  ((flush z .scene r.1).modZone z (fun q => { q with owner := none }), r.2)

/-! ## The bed -/

/-- A fade start request on a zone's bed gain slot, when it has one whose in-force kind is GAIN (R161, R163). -/
def fadeBed (z : ZoneIx) (t : Target) (time : Nat) (s : State) : State :=
  match (s.zones[z]).bedSlot with
  | some (l, k) => if (s.slot l k).kind = .gain then fadeStart l k t time s else s
  | none => s

/-- What a bay's entry to DARK does to a zone: its queues flushed, voice-active clear, the bed at base (R166). The manual
gives the three flushes no order: ANNOUNCE, SCENE, AMBIENT, each with its own test for PACE GO (DESIGN CHOICE, unsafe,
log entry 34). -/
def zoneToDark (z : ZoneIx) (s : State) : State :=
  let s := flush z .ambient (flush z .scene (flush z .announce s))
  let s := s.modZone z (fun r => { r with voiceActive := false })
  match (s.zones[z]).bedSlot with
  | some (l, k) => baseRequest l k s
  | none => s

/-- A bay change at the Narration Buffer: only the entry to DARK acts (R166). The manual gives the zones of the bay no
order: they are taken in ascending number (DESIGN CHOICE, unsafe, log entry 35). -/
def narrationBayChange (b : BayIx) (new : BayState) (s : State) : State :=
  if new = .dark then
    overAll 24 (fun z t => if (t.zones[z]).bay = b then zoneToDark z t else t) s
  else s

/-! ## Arrival -/

/-- The class a class code names (12.2). -/
def classOf (code : Byte) : Option ChunkClass :=
  if code = 0 then some .announce else if code = 1 then some .scene else if code = 2 then some .ambient else none

/-- The clip id of a BLOCK payload: bits 11 to 0 of its bytes 2 to 3 (12.2). -/
def payloadClip (p : List Byte) : Nat := be2 (p.getD 2 0) (p.getD 3 0) % 4096
/-- The last flag of a BLOCK payload: bit 15 of its bytes 2 to 3 (12.2). -/
def payloadLast (p : List Byte) : Bool := (p.getD 2 0).getLsbD 7
/-- The sequence number of a BLOCK payload (12.2). -/
def payloadSeq (p : List Byte) : Nat := be2 (p.getD 4 0) (p.getD 5 0)

/-- Drop a chunk for a zone: the zone's drop count and a POOL check (R153, R155). -/
def dropChunk (z : ZoneIx) (cls : Byte) (clip seq : Nat) (r : PoolReason) (s : State) : State :=
  raiseCheck (.chunk z.val cls clip seq r) none
    (s.modZone z (fun q => { q with drops := satInc Config.countMax q.drops }))

/-- The tests of R154 and R155 in order: the reason of the first that fails. -/
def arrivalFailure (s : State) (z : ZoneIx) (c : Chunk) : Option PoolReason :=
  let r := s.zones[z]
  let n := c.blocks
  match c.cls with
  | .announce => if s.pool.free < n then some .poolFull else none
  | .scene =>
    if ¬ (r.owner.isSome = true ∧ (r.clipState = .expecting ∨ r.clipState = .playing) ∧ c.clip = r.clip) then
      some .unclaimed
    else if s.pool.free < n + s.params.sceneReserve then some .reserve
    else if r.limit < r.usage + n then some .zoneLimit else none
  | .ambient =>
    if r.ambientEnable = false then some .ambientOff
    else if s.pool.free < n + s.params.ambientReserve then some .reserve
    else if r.limit < r.usage + n then some .zoneLimit else none

/-- Store a chunk: its blocks leave the pool, it joins its queue, and PACE SLOW is asked for when the usage passes the
pause level (R156). -/
def storeChunk (z : ZoneIx) (c : Chunk) (s : State) : State :=
  let n := c.blocks
  let s := s.modPool (fun p => { p with free := p.free - n })
  let s := s.modZone z (fun r => { r.setQueue c.cls (r.queue c.cls ++ [c]) with usage := r.usage + n })
  let r := s.zones[z]
  if r.pauseLevel < r.usage ∧ r.paused = false then
    paceReport z true (s.modZone z (fun q => { q with paused := true }))
  else s

/-- The arrival of a taken BLOCK frame's chunk (R153 to R156). -/
def arriveChunk (p : List Byte) (s : State) : State :=
  let code := p.getD 1 0
  match index? 24 (p.getD 0 0).toNat with
  | none =>
    raiseCheck (.chunk (p.getD 0 0).toNat code (payloadClip p) (payloadSeq p) .unknownZone) none
      (s.modPool (fun q => { q with unknownZone := satInc Config.countMax q.unknownZone }))
  | some z =>
    match classOf code with
    | none => dropChunk z code (payloadClip p) (payloadSeq p) .badClass s
    | some cls =>
      if s.bayState (s.zones[z]).bay = .dark then s
      else
        let c : Chunk :=
          { cls := cls, clip := payloadClip p, seq := payloadSeq p, last := payloadLast p, audio := p.drop 8,
            arrival := s.now }
        match arrivalFailure s z c with
        | some r => dropChunk z code (payloadClip p) (payloadSeq p) r s
        | none => storeChunk z c s

/-! ## The block window -/

/-- The voice candidate of a zone: the head of the ANNOUNCE queue, else of a served SCENE queue (R160). -/
def voiceCandidate (s : State) (z : ZoneIx) : Option Chunk :=
  match (s.zones[z]).announceQ with
  | c :: _ => some c
  | [] =>
    if ownerRunning s z = true ∧ s.bayState (s.zones[z]).bay ≠ .dark then (s.zones[z]).sceneQ.head? else none

/-- Whether the bed is served in a bay state (R160). -/
def BayState.bedServed : BayState → Bool
  | .attract | .live | .service => true
  | .dark | .hold => false

/-- The bed candidate of a zone (R160). -/
def bedCandidate (s : State) (z : ZoneIx) : Option Chunk :=
  if (s.bayState (s.zones[z]).bay).bedServed then (s.zones[z]).ambientQ.head? else none

/-- Whether a stream is ready: its next-send time is none or reached (R160). -/
def streamReady (now : Time) (next : Option Time) : Bool := next.all (reached now)

/-- Take a chosen chunk from the head of its queue; a SCENE chunk makes the clip PLAYING, and the first voice chunk
ducks the bed (R161). -/
def takeChunk (z : ZoneIx) (c : Chunk) (s : State) : State :=
  let r := s.zones[z]
  let s := s.modZone z (fun q => q.setQueue c.cls (q.queue c.cls).tail)
  match c.cls with
  | .ambient => s
  | cls =>
    let s := if cls = .scene then s.modZone z (fun q => { q with clipState := .playing }) else s
    if r.voiceActive then s
    else fadeBed z (.fixed r.duckLevel) r.duckTime (s.modZone z (fun q => { q with voiceActive := true }))

/-- A walk of the block window: the state, the blocks left, the chunks chosen and the last zone that had one
(R159). -/
structure Walk where
  s : State
  left : Nat
  chosen : List Carried
  last : Option ZoneIx

/-- Judge one candidate of a zone: chosen when its stream is ready and its blocks fit (R160). -/
def judge (z : ZoneIx) (cand : Option Chunk) (ready : Bool) (w : Walk) : Walk :=
  match cand with
  | none => w
  | some c =>
    if ready = true ∧ c.blocks ≤ w.left then
      { s := takeChunk z c w.s, left := w.left - c.blocks,
        chosen := w.chosen ++ [{ zone := z, node := (w.s.zones[z]).node, chunk := c }], last := some z }
    else w

/-- Judge a zone: its voice candidate and then its bed candidate (R159). -/
def judgeZone (w : Walk) (z : ZoneIx) : Walk :=
  let w := judge z (voiceCandidate w.s z) (streamReady w.s.now (w.s.zones[z]).voiceNext) w
  judge z (bedCandidate w.s z) (streamReady w.s.now (w.s.zones[z]).bedNext) w

/-- The zones of a line in walk order: from the lowest above last served, wrapping (R159). -/
def walkOrder (s : State) (l : LineIx) : List ZoneIx :=
  let zs := (List.finRange 24).filter (fun z => (s.zones[z]).line = l)
  match s.pool.lastServed[l] with
  | none => zs
  | some p => zs.filter (fun z => p < z) ++ zs.filter (fun z => z ≤ p)

/-- Fill the block window of a line with its in-force allowance (R159). -/
def fillWindow (l : LineIx) (s : State) : State :=
  let w := (walkOrder s l).foldl judgeZone
    { s := s, left := (s.lines[l]).params.allowance, chosen := [], last := none }
  let t := match w.last with
    | some z => w.s.modPool (fun p => { p with lastServed := p.lastServed.set l (some z) })
    | none => w.s
  t.modLine l (fun e => { e with block := w.chosen })

/-! ## Completion -/

/-- Whether a zone's voice has ended: no ANNOUNCE chunk, and no SCENE chunk or none served (R163). -/
def voiceEnded (s : State) (z : ZoneIx) : Bool :=
  (s.zones[z]).announceQ.isEmpty && ((s.zones[z]).sceneQ.isEmpty || !ownerRunning s z)

/-- A voice chunk with the last flag has completed: when the voice has ended, voice-active clears and the bed is
restored (R163). -/
def lastVoiceDone (z : ZoneIx) (s : State) : State :=
  if voiceEnded s z = true ∧ (s.zones[z]).voiceActive = true then
    fadeBed z .base (s.zones[z]).restoreTime (s.modZone z (fun r => { r with voiceActive := false }))
  else s

/-- The completion of one carried chunk at its frame end: blocks returned, next-send time set, a closing SCENE chunk
makes the clip DONE, and a last voice chunk is judged (R162). The instances that the DONE notice ran off cue 2,047 are
handed back: the voice is judged before they end (DESIGN CHOICE, unsafe, log entry 40). -/
def completeChunk (start : Time) (c : Carried) (s : State) : State × List InstIx :=
  let z := c.zone
  let s := paceGo z (returnBlocks z c.chunk.blocks s)
  let next := later start (ceilDiv (c.chunk.audio.length * (s.zones[z]).pace) 1000)
  match c.chunk.cls with
  | .ambient => (s.modZone z (fun r => { r with bedNext := some next }), [])
  | cls =>
    let s := s.modZone z (fun r => { r with voiceNext := some next })
    let q := s.zones[z]
    let r :=
      if cls = .scene ∧ c.chunk.last = true ∧ c.chunk.clip = q.clip ∧ q.clipState = .playing then
        setClipState z .done s
      else (s, [])
    (if c.chunk.last then lastVoiceDone z r.1 else r.1, r.2)

end Sys2Proof.Machine
end

