-- ==== Sys2Proof/Machine/Motion.lean ====
section
/-! DEFINITION. The Motion Governor: positions along a move (R178), freezes (R179, R180), synchronisation (R171, R172),
travel regions (R173), the wear budget (R175, R176), move requests (R174, R177) and the end deadline (R178). Following
faults stand in Bays.lean, since a fault ends a scene and may hold a bay (R183). -/

namespace Sys2Proof.Machine

/-! ## Positions and freezes -/

/-- The position a number of milliseconds along a move from p toward q at v units/s, clamped at q (R178). -/
def alongMove (p q v e : Nat) : Nat := if p ≤ q then p + min (v * e / 1000) (q - p) else p - min (v * e / 1000) (p - q)

/-- The commanded position of an axis at a part time (R178). -/
def Axis.position (a : Axis) (now : Time) : Nat :=
  match a.state with
  | .moving => alongMove a.moveFrom a.moveTo a.speed (since now a.moveStart)
  | .unsynced | .idle | .stopped => a.pos

/-- An axis that has stopped where it stands: IDLE, its end deadline cancelled (R179). The move fields keep their
values, which mean nothing outside MOVING (log entry 20). -/
def Axis.halt (a : Axis) (now : Time) : Axis := { a with state := .idle, pos := a.position now, deadline := none }

/-- Freeze an axis: a MOVING one halts, and the change is handed to the Cue Engine (R179). -/
def freezeAxis (a : AxisIx) (s : State) : State × List InstIx :=
  if (s.axes[a]).state = .moving then notify (.motion a) (s.modAxis a (fun x => x.halt s.now)) else (s, [])

/-- Whether a bay's change to a state freezes the axes of the bay (R180). -/
def BayState.freezes : BayState → Bool
  | .dark | .hold | .service => true
  | .attract | .live => false

/-- A bay change at the Motion Governor: at DARK, HOLD or SERVICE every MOVING axis of the bay is frozen, in ascending
axis number (R180). R180 says of each freeze that another block may take the change before or after its notice: here all the
freezes and their notices are taken together, and no other block takes the change between two of them (DESIGN CHOICE,
unsafe, log entry 44). -/
def motionBayChange (b : BayIx) (new : BayState) (s : State) : State × List InstIx :=
  if new.freezes then
    gather (List.finRange 24) (fun a t => if (t.axes[a]).bay = b then freezeAxis a t else (t, [])) s
  else (s, [])

/-! ## Synchronisation -/

/-- An axis synchronised at a position (R171, R172). -/
def Axis.sync (a : Axis) (pos : Nat) : Axis := { a with state := .idle, pos := pos, following := 0, lastSent := none }

/-- Before a frame's contents are fixed, an UNSYNCED axis of the line without a feedback slot is synchronised at KL
(R172). -/
def syncAtStart (l : LineIx) (s : State) : State :=
  overAll 24 (fun a t =>
    let x := t.axes[a]
    if x.state = .unsynced ∧ x.setpoint.1 = l ∧ x.feedback = none then t.modAxis a (fun y => y.sync y.kl) else t) s

/-- After the contents are fixed, each axis takes the value its setpoint slot carries as its last sent (R172). -/
def noteLastSent (l : LineIx) (s : State) : State :=
  overAll 24 (fun a t =>
    let x := t.axes[a]
    let r := t.slot l x.setpoint.2
    if x.setpoint.1 = l ∧ r.kind = .axis ∧ r.axis = a ∧ x.state ≠ .unsynced then
      match ((t.lines[l]).sent)[x.setpoint.2] with
      | some v => t.modAxis a (fun y => { y with lastSent := some v })
      | none => t
    else t) s

/-! ## Travel regions (R173) -/

/-- KU' of R173. -/
def Axis.upper (a : Axis) : Nat := if a.ku < a.kl then a.kl else a.ku
/-- SL' of R173. -/
def Axis.slowLow (a : Axis) : Nat := clampTo a.kl a.upper a.sl
/-- SU' of R173. -/
def Axis.slowHigh (a : Axis) : Nat := clampTo a.kl a.upper a.su

/-- Whether a position is slow (R173). -/
def Axis.slowAt (a : Axis) (x : Nat) : Bool :=
  decide (a.kl ≤ x) && decide (x ≤ a.upper) &&
    (decide (a.slowHigh < a.slowLow) || decide (x < a.slowLow) || decide (a.slowHigh < x))

/-- Whether a position of the path from the smaller to the larger end is slow (R173): with the regions crossed, any
position inside the travel region; else one below SL' or one above SU'. The path may begin outside the region. -/
def Axis.pathSlow (a : Axis) (p q : Nat) : Bool :=
  let lo := min p q
  let hi := max p q
  if a.slowHigh < a.slowLow then decide (lo ≤ a.upper) && decide (a.kl ≤ hi)
  else
    (decide (max lo a.kl < a.slowLow) && decide (a.kl ≤ hi)) ||
      (decide (a.slowHigh < min hi a.upper) && decide (lo ≤ a.upper))

/-! ## The wear budget -/

/-- A refill at a part time: the credit goes to C, then to E; a lost credit clears the residue (R175). -/
def Axis.refill (a : Axis) (t : Time) : Axis :=
  let sum := since t a.refilled * a.rate + a.residue
  let credit := sum / 1000
  let toC := min credit (a.cbs - a.c)
  let toE := min (credit - toC) (a.ebs - a.e)
  { a with
    c := a.c + toC
    e := a.e + toE
    residue := if toC + toE < credit then 0 else sum % 1000
    refilled := t
    refillDeadline := later t Config.longest }

/-- The frame-end refills of the axes whose setpoint slot lies on the line (R175). -/
def refillLine (l : LineIx) (s : State) : State :=
  overAll 24 (fun a t => if (t.axes[a]).setpoint.1 = l then t.modAxis a (fun x => x.refill t.now) else t) s

/-- The colour of a move of a distance (R176). -/
def Axis.meter (a : Axis) (d : Nat) : Colour := if d ≤ a.c then .green else if d ≤ a.e then .yellow else .red

/-- The tokens taken by an accepted move: whole from one bucket (R176). -/
def Axis.pay (a : Axis) (d : Nat) : Axis :=
  match a.meter d with
  | .green => { a with c := a.c - d, colour := some .green }
  | .yellow => { a with e := a.e - d, colour := some .yellow }
  | .red => { a with colour := some .red }

/-- The speed of an accepted move (R177). -/
def Axis.moveSpeed (a : Axis) (asked : Nat) (slow service : Bool) (c : Colour) : Nat :=
  let v := min (if asked = 0 then a.defaultSpeed else asked) a.maxSpeed
  let v := if slow then min v a.slowSpeed else v
  let v := if service then min v a.slowSpeed else v
  match c with
  | .yellow => max 1 (v / 2)
  | .green | .red => v

/-! ## Move requests -/

/-- Whether a move request may pass in a bay state (R174, step 2). -/
def BayState.mayMove (b : BayState) (o : Origin) : Bool :=
  match b with
  | .attract | .live => true
  | .service => o == .command
  | .dark | .hold => false

/-- The first steps of a move request: the reason why it is refused, if it is (R174, steps 1 and 2). -/
def moveRefusal (s : State) (a : AxisIx) (o : Origin) : Option MoveDenied :=
  match (s.axes[a]).state with
  | .unsynced => some .unsynced
  | .stopped => some .stopped
  | .idle | .moving => if (s.bayState (s.axes[a]).bay).mayMove o then none else some .bayState

/-- The start of an accepted move (R177). -/
def Axis.startMove (a : Axis) (p q v : Nat) (now : Time) : Axis :=
  let d := ceilDiv (dist p q * 1000) v
  { a with
    state := .moving
    moveFrom := p
    moveTo := q
    speed := v
    moveStart := now
    duration := d
    deadline := some (later now (min d Config.longest)) }

/-- A move of distance 0: it completes at once, unmetered (R174, step 4; R176). The notice of a MOVING axis can reach
only its owner, which executes this cue and so holds no wait (log entry 11). -/
def zeroMove (a : AxisIx) (s : State) : State :=
  if (s.axes[a]).state = .moving then
    (notify (.motion a) (s.modAxis a (fun x => { x.halt s.now with colour := none }))).1
  else s.modAxis a (fun x => { x with colour := none })

/-- The budget and the start of a move of distance above 0 (R175 to R177). -/
def meteredMove (a : AxisIx) (p q speed : Nat) (s : State) : State × Option MoveDenied :=
  let x := (s.axes[a]).refill s.now
  let c := x.meter (dist p q)
  let y := x.pay (dist p q)
  let service := s.bayState x.bay == .service
  match c with
  | .red => (s.modAxis a (fun _ => y), some .budget)
  | .green | .yellow =>
    (s.modAxis a (fun _ => y.startMove p q (y.moveSpeed speed (y.pathSlow p q) service c) s.now), none)

/-- A move request of an instance's MOVE cue (R174 to R177), and the reason when it was refused. -/
def moveRequest (a : AxisIx) (target speed : Nat) (o : Origin) (s : State) : State × Option MoveDenied :=
  match moveRefusal s a o with
  | some r => (s, some r)
  | none =>
    let x := s.axes[a]
    let q := clampTo x.kl x.upper target
    let s := if q = target then s else s.modAxis a (fun y => { y with clamps := satInc Config.countMax y.clamps })
    let p := x.position s.now
    if p = q then (zeroMove a s, none) else meteredMove a p q speed s

/-! ## Deadlines and RESET AXIS -/

/-- The expiry of an axis's end deadline (R178). -/
def endDeadline (a : AxisIx) (s : State) : State × List InstIx :=
  let x := s.axes[a]
  let e := since s.now x.moveStart
  if e < x.duration then
    (s.modAxis a (fun y => { y with deadline := some (later s.now (min (x.duration - e) Config.longest)) }), [])
  else notify (.motion a) (s.modAxis a (fun y => { y with state := .idle, pos := y.moveTo, deadline := none }))

/-- RESET AXIS on an axis: UNSYNCED, its commanded position kept (R184). -/
def unsyncAxis (a : AxisIx) (s : State) : State × List InstIx :=
  let x := s.axes[a]
  let t := s.modAxis a (fun y =>
    { y with state := .unsynced, pos := y.position s.now, deadline := none, following := 0, lastSent := none })
  if x.state = .moving then notify (.motion a) t else (t, [])

end Sys2Proof.Machine
end

