-- ==== Sys2Proof/Machine/Admission.lean ====
section
/-! DEFINITION. The Admission Unit: permission (R107), conflicts (R110), admission (R113, R130), preemption (R111, R112),
the wait list (R114 to R118), ends (R120, R121), requests (R107 to R114), stop requests (R123), bay changes (R119) and
SCENE reports (R124). -/

namespace Sys2Proof.Machine

/-! ## Looking up -/

/-- Whether an instance is busy (R106). -/
def Inst.busy (n : Inst) : Bool := match n.state with | .free => false | .running | .suspended => true

/-- The free instance with the lowest number (R106). -/
def lowestFree (s : State) : Option InstIx := (List.finRange 12).find? (fun i => !(s.insts[i]).busy)

/-- The busy instance of a scene, if any (R109). -/
def busyOf (s : State) (c : SceneIx) : Option InstIx :=
  (List.finRange 12).find? (fun i => (s.insts[i]).busy && (s.insts[i]).scene == c)

/-- Whether a scene has a wait entry (R110). -/
def isWaiting (s : State) (c : SceneIx) : Bool := s.waitList.any (fun e => e.scene == c)

/-- Whether a scene is in use: a busy instance or a wait entry (R105). -/
def sceneInUse (s : State) (c : SceneIx) : Bool := (busyOf s c).isSome || isWaiting s c

/-- Whether a scene is defined (R105). -/
def SceneFlags.defined (f : SceneFlags) : Bool := f.attract || f.live || f.safety

/-- The reason why a bay state does not permit a scene's flags and an origin, if it does not (R107). -/
def permission (b : BayState) (f : SceneFlags) (o : Origin) : Option RefuseReason :=
  match b with
  | .dark => some .bayClosed
  | .attract => if f.attract then none else some .bayState
  | .live => if f.live then none else some .bayState
  | .hold => if f.safety then none else some .bayState
  | .service => if o = .command then none else some .bayState

/-- Whether an instance owns something a scene claims (R110). -/
def ownsClaim (s : State) (c : Scene) (i : InstIx) : Bool :=
  c.groups.any (fun g => (s.groups[g]).owner == some i) || c.zones.any (fun z => (s.zones[z]).owner == some i) ||
    c.axes.any (fun a => (s.axes[a]).owner == some i)

/-- The conflicting instances of a scene, in ascending number (R110). -/
def conflicts (s : State) (c : Scene) : List InstIx := (List.finRange 12).filter (ownsClaim s c)

/-- Offer a SCENE report (R124, R146). -/
def sceneReport (c : SceneIx) (i : Option InstIx) (o : Origin) (e : SceneEvent) (s : State) : State :=
  offerReport (.scene c i o e) s

/-! ## Ending an instance -/

/-- Step 1 of an end, and a restart's first acts: no due time, no wait, no loop, no remaining times (R121, R130). -/
def Inst.clearCues (n : Inst) : Inst :=
  { n with due := none, wait := none, loopOwner := none, loopCount := 0, remDue := none, remWait := none }

/-- Step 2 for one group: released and free, when the instance owns it (R87, R121). -/
def giveGroup (i : InstIx) (release : Nat) (g : GroupIx) (s : State) : State :=
  if (s.groups[g]).owner = some i then
    (releaseGroup g release s).modGroup g (fun r => { r with owner := none })
  else s

/-- Step 3 for one zone, when the instance owns it (R121, R158). The notice of the clip state reaches only the owner,
whose wait step 1 cleared (log entry 11). -/
def giveZone (i : InstIx) (z : ZoneIx) (s : State) : State :=
  if (s.zones[z]).owner = some i then (zoneOwnerEnds z s).1 else s

/-- Step 4 for one axis, when the instance owns it: frozen, and then free (R121, R179). -/
def giveAxis (i : InstIx) (a : AxisIx) (s : State) : State :=
  if (s.axes[a]).owner = some i then (freezeAxis a s).1.modAxis a (fun x => { x with owner := none }) else s

/-- Step 6 of an end: the ready time, and the cooling flag unless the cooldown is 0 (R108, log entry 13). -/
def Scene.cool (c : Scene) (now : Time) : Scene :=
  { c with ready := later now c.cooldown, cooling := c.cooldown != 0 }

/-- Steps 1 to 7 of R121 on a busy instance. With a preempting scene, what that scene also claims is left out of steps
2 to 4 (R111). R121 orders the groups by their claims and gives the zones and axes no order: they too are given back in
the order of the scene's claims, so the zones are flushed and their PACE GO reports come in it (DESIGN CHOICE, unsafe,
log entry 41). -/
def endSteps (i : InstIx) (cause : EndCause) (pre : Option SceneIx) (s : State) : State :=
  let n := s.insts[i]
  let c := s.scenes[n.scene]
  let keepG := fun g => pre.any (fun p => (s.scenes[p]).groups.contains g)
  let keepZ := fun z => pre.any (fun p => (s.scenes[p]).zones.contains z)
  let keepA := fun a => pre.any (fun p => (s.scenes[p]).axes.contains a)
  let s := s.modInst i Inst.clearCues
  let s := overList (c.groups.filter (fun g => !keepG g)) (giveGroup i c.release) s
  let s := overList (c.zones.filter (fun z => !keepZ z)) (giveZone i) s
  let s := overList (c.axes.filter (fun a => !keepA a)) (giveAxis i) s
  let s := s.modInst i (fun r => { r with state := .free })
  let s := s.modScene n.scene (fun r => r.cool s.now)
  if c.flags.report = true ∨ cause ≠ .endCue then sceneReport n.scene (some i) n.origin (.ended cause pre) s else s

/-! ## Admission -/

/-- The Cue Engine takes up an instance at its scene's first cue (R130, R109). -/
def takeUp (i : InstIx) (s : State) : State :=
  let first := (s.sceneOf i).first
  s.modInst i (fun n => { n.clearCues with cue := first, due := some (later s.now (s.cues[first]).delay) })

/-- Admit a scene into a free instance: it becomes RUNNING, owns the claims in their order, and is taken up (R113). -/
def admitScene (i : InstIx) (c : SceneIx) (o : Origin) (s : State) : State :=
  let r := s.scenes[c]
  let s := s.modInst i (fun n => { n with state := .running, scene := c, origin := o, start := s.now })
  let s := overList r.groups (fun g t => t.modGroup g (fun x => { x with owner := some i })) s
  let s := overList r.zones (fun z t => t.modZone z (fun x => { x with owner := some i })) s
  let s := overList r.axes (fun a t => t.modAxis a (fun x => { x with owner := some i })) s
  takeUp i s

/-! ## The wait list -/

/-- A new entry's place: after every entry of equal or higher priority (R115). -/
def insertWait (e : WaitEntry) (l : List WaitEntry) : List WaitEntry :=
  l.takeWhile (fun x => decide (e.priority ≤ x.priority)) ++ e :: l.dropWhile (fun x => decide (e.priority ≤ x.priority))

/-- The wait list without a scene's entry. -/
def withoutEntry (c : SceneIx) (l : List WaitEntry) : List WaitEntry := l.filter (fun e => e.scene != c)

/-- One entry of a re-scan: admitted when its bay permits it, its claims are free and an instance is free (R116). -/
def rescanEntry (e : WaitEntry) (s : State) : State :=
  let r := s.scenes[e.scene]
  if permission (s.bayState r.bay) r.flags e.origin = none ∧ conflicts s r = [] then
    match lowestFree s with
    | some i =>
      let t := admitScene i e.scene e.origin (s.setWaitList (withoutEntry e.scene s.waitList))
      if r.flags.report then sceneReport e.scene (some i) e.origin .admitted t else t
    | none => s
  else s

/-- A re-scan: the wait list walked from head to tail (R116). -/
def rescan (s : State) : State := overList s.waitList rescanEntry s

/-- Remove a wait entry without admission, and report it (R118, R124). -/
def removeEntry (e : WaitEntry) (reason : RemoveReason) (s : State) : State :=
  sceneReport e.scene none e.origin (.waitRemoved reason) (s.setWaitList (withoutEntry e.scene s.waitList))

/-- End an instance for a cause; a FREE instance is left as it is (R120, R121). -/
def endInstance (i : InstIx) (cause : EndCause) (s : State) : State :=
  if (s.insts[i]).busy then rescan (endSteps i cause none s) else s

/-- End with cause CUE the instances that a notice ran off cue memory (R132, R133, log entries 10 and 33). -/
def endRunOff (r : State × List InstIx) : State := overList r.2 (fun i => endInstance i .cue) r.1

/-! ## Requests -/

/-- The outcome of a scene request (R122). -/
inductive Outcome | admitted (i : InstIx) | restarted (i : InstIx) | waiting | refused (r : RefuseReason)
deriving DecidableEq, Repr

/-- Restart a scene's instance: its origin and start time are the request's, and its list begins again (R109). -/
def restart (i : InstIx) (c : SceneIx) (o : Origin) (s : State) : State :=
  sceneReport c (some i) o .restarted (takeUp i (s.modInst i (fun n => { n with origin := o, start := s.now })))

/-- Report an ADMITTED outcome of a request that has no answer, when the scene has the REPORT flag (R124). -/
def reportDecision (c : SceneIx) (o : Origin) (i : Option InstIx) (e : SceneEvent) (s : State) : State :=
  if o ≠ .command ∧ (s.scenes[c]).flags.report = true then sceneReport c i o e s else s

/-- Whether a request preempts its conflicting instances: each of strictly lower priority and without SAFETY (R111). -/
def preempts (s : State) (c : Scene) : Bool :=
  (conflicts s c).all (fun i => decide ((s.sceneOf i).priority < c.priority) && !(s.sceneOf i).flags.safety)

/-- Queue or refuse a request that is not admitted (R114). -/
def queueOrRefuse (c : SceneIx) (o : Origin) (conflict : Bool) (s : State) : State × Outcome :=
  let r := s.scenes[c]
  let refuse := fun x => (reportDecision c o none (.refused x) s, Outcome.refused x)
  if r.waitLimit = 0 ∨ s.bayState r.bay = .service then refuse (if conflict then .conflict else .noInstance)
  else if s.waitList.length < Config.waitMax then
    let e : WaitEntry :=
      { scene := c, origin := o, priority := r.priority, enqueued := s.now, expiry := later s.now r.waitLimit }
    (reportDecision c o none .waiting (s.setWaitList (insertWait e s.waitList)), .waiting)
  else refuse .waitFull

/-- Admit a request into the lowest free instance and report the decision (R113, R124); with none free it is refused,
which a preemption never meets (R111). -/
def admitRequest (c : SceneIx) (o : Origin) (s : State) : State × Outcome :=
  match lowestFree s with
  | some i => (reportDecision c o (some i) .admitted (admitScene i c o s), .admitted i)
  | none => queueOrRefuse c o false s

/-- A preemption's three stages; the ADMITTED report leaves at stage 2 (R111, R124, log entry 21). -/
def preempt (c : SceneIx) (o : Origin) (s : State) : State × Outcome :=
  let r := admitRequest c o (overList (conflicts s s.scenes[c]) (fun i => endSteps i .preempted (some c)) s)
  (rescan r.1, r.2)

/-- A scene request: the first test that settles it gives its outcome (R107 to R114). -/
def request (c : SceneIx) (o : Origin) (s : State) : State × Outcome :=
  let r := s.scenes[c]
  let refuse := fun x => (reportDecision c o none (.refused x) s, Outcome.refused x)
  if r.flags.defined = false then refuse .notDefined
  else
    match permission (s.bayState r.bay) r.flags o with
    | some x => refuse x
    | none =>
      if r.cooling then refuse .cooldown
      else
        match busyOf s c with
        | some i => if r.flags.restart then (restart i c o s, .restarted i) else refuse .alreadyRunning
        | none =>
          if isWaiting s c then refuse .alreadyWaiting
          else if conflicts s r = [] then admitRequest c o s
          else if preempts s r then preempt c o s
          else queueOrRefuse c o true s

/-- A stop request: the busy instance ends, or the wait entry goes, or nothing changes (R123). -/
def stopRequest (c : SceneIx) (s : State) : State × Bool :=
  match busyOf s c with
  | some i => (endInstance i .stopped s, true)
  | none =>
    match s.waitList.find? (fun e => e.scene == c) with
    | some e => (removeEntry e .stopped s, true)
    | none => (s, false)

/-! ## Bay changes -/

/-- Stage 1 of a bay change: the entries of a bay that becomes DARK or SERVICE are removed (R119). -/
def removeReason : BayState → Option RemoveReason
  | .dark => some .bayClosed
  | .service => some .bayState
  | .attract | .live | .hold => none

/-- Stage 2 of a bay change: whether a busy instance of the bay ends in the new state (R119). -/
def endsIn (new : BayState) (n : Inst) (f : SceneFlags) : Bool :=
  match new with
  | .dark => true
  | .service => n.state == .suspended || n.origin != .command
  | .attract => !f.attract
  | .live => !f.live
  | .hold => f.holdAbort && !f.safety

/-- A bay change at the Admission Unit: entries removed, instances ended, one re-scan (R119). The manual gives the
removals of stage 1 no order: they and their reports go from the head of the wait list to its tail (DESIGN CHOICE,
unsafe, log entry 31). -/
def admissionBayChange (b : BayIx) (new : BayState) (s : State) : State :=
  let s :=
    match removeReason new with
    | some x => overList (s.waitList.filter (fun e => (s.scenes[e.scene]).bay == b)) (fun e => removeEntry e x) s
    | none => s
  let s := overAll 12 (fun i t =>
    if (t.insts[i]).busy = true ∧ (t.sceneOf i).bay = b ∧ endsIn new t.insts[i] (t.sceneOf i).flags = true then
      endSteps i .bay none t
    else t) s
  rescan s

end Sys2Proof.Machine
end

