-- ==== Sys2Proof/Machine/Scenes.lean ====
section
/-! DEFINITION. The Cue Engine: the tests of a cue (R132), executing cues (R131, R135 to R140), the burst limit (R134),
timeouts (R142), suspension and resume (R144, R145) and bay changes (R143). -/

namespace Sys2Proof.Machine

/-! ## Executing cues -/

/-- The first test of R132 that makes a cue in cue memory invalid for a scene, if any. -/
def cueFault (c : Scene) : CueKind → Option CueTest
  | .unknown _ _ => some .unknownKind
  | .light g _ _ _ => if c.groups.contains g then none else some .group
  | .voice z _ => if c.zones.contains z then none else some .zone
  | .waitClip z _ _ => if c.zones.contains z then none else some .zone
  | .move a _ _ => if c.axes.contains a = false then some .axis else if c.flags.safety then some .safetyMove else none
  | .waitMotion a _ _ => if c.axes.contains a then none else some .axis
  | .waitTrigger _ _ _ | .jump _ _ | .endScene => none

/-- What follows an executed cue: the next index, a wait held, or the instance's end (R133, R139, R140). -/
inductive Flow | next (index : Nat) | held | ended
deriving DecidableEq, Repr

/-- A JUMP cue at an index: its effect on the loop fields, and the next index (R138). -/
def Inst.jump (n : Inst) (here : CueIx) (target count : Nat) : Inst × Nat :=
  if count = 0 then (n, target)
  else if n.loopOwner = some here then
    if n.loopCount = 0 then ({ n with loopOwner := none }, here.val + 1)
    else ({ n with loopCount := n.loopCount - 1 }, target)
  else ({ n with loopOwner := some here, loopCount := count - 1 }, target)

/-- Whether a wait is met at its start (R140). -/
def waitMet (s : State) : WaitOn → Bool
  | .trigger _ => false
  | .motion a => (s.axes[a]).state != .moving
  | .clip z => (s.zones[z]).clipState == .done || (s.zones[z]).clipState == .none

/-- Execute a wait cue: met at its start, or held (R140). -/
def startWait (i : InstIx) (on : WaitOn) (timeout : Nat) (action : TimeoutAction) (s : State) : State × Flow :=
  if waitMet s on then (s, .next ((s.insts[i]).cue.val + 1))
  else
    let d := if timeout = 0 then none else some (later s.now timeout)
    (s.modInst i (fun n => { n with wait := some { on := on, deadline := d, action := action } }), .held)

/-- Execute a valid cue of an instance (R135 to R140). -/
def executeCue (i : InstIx) (k : CueKind) (s : State) : State × Flow :=
  let n := s.insts[i]
  let next := Flow.next (n.cue.val + 1)
  match k with
  | .light g base level fade => (groupFade g (if base then .base else .fixed level) fade s, next)
  | .voice z clip => (expectClip z clip s, next)
  | .move a target speed =>
    let r := moveRequest a target speed n.origin s
    match r.2 with
    | some x => (sceneReport n.scene (some i) n.origin (.moveDenied n.cue a x) r.1, next)
    | none => (r.1, next)
  | .waitTrigger e timeout action => startWait i (.trigger e) timeout action s
  | .waitMotion a timeout action => startWait i (.motion a) timeout action s
  | .waitClip z timeout action => startWait i (.clip z) timeout action s
  | .jump target count =>
    let r := n.jump n.cue target count
    (s.modInst i (fun _ => r.1), .next r.2)
  | .endScene => (endInstance i .endCue s, .ended)
  | .unknown _ _ => (s, .held)

/-- Meet an invalid cue within a due event: its check is raised and the instance ends with cause CUE (R132). -/
def invalidCue (i : InstIx) (index : Nat) (t : CueTest) (s : State) : State :=
  endInstance i .cue (cueInvalid i index t s)

/-- Execute the cue at an instance's index and those that follow without delay, with the number of cues the burst limit
still allows (R131 to R134). The last case is the limit: 16 cues are executed and the next has delay 0. -/
def runCues (i : InstIx) : Nat → State → State
  | 0, s => s.modInst i (fun n => { n with due := some (later s.now 1) })
  | left + 1, s =>
    let n := s.insts[i]
    let k := (s.cues[n.cue]).kind
    match cueFault (s.sceneOf i) k with
    | some t => invalidCue i n.cue.val t s
    | none =>
      let r := executeCue i k s
      match r.2 with
      | .held | .ended => r.1
      | .next x =>
        match index? 2048 x with
        | none => invalidCue i x .outside r.1
        | some c =>
          let t := r.1.modInst i (fun m => { m with cue := c })
          let delay := (t.cues[c]).delay
          if delay = 0 then runCues i left t
          else t.modInst i (fun m => { m with due := some (later t.now delay) })

/-- A due event: the due time becomes none, and cues are executed (R131). -/
def dueEvent (i : InstIx) (s : State) : State := runCues i Config.burst (s.modInst i (fun n => { n with due := none }))

/-! ## Timeouts -/

/-- The kind of a wait (R127). -/
def WaitOn.kind : WaitOn → WaitKind | .trigger _ => .trigger | .motion _ => .motion | .clip _ => .clip

/-- The expiry of a wait's deadline (R142). The manual gives the WAIT_TIMEOUT report and the CUE check of a pass beyond
cue 2,047 no order: the report is offered first (DESIGN CHOICE, unsafe, log entry 32). -/
def waitTimeout (i : InstIx) (w : Wait) (s : State) : State :=
  match w.action with
  | .endIt => endInstance i .aborted s
  | .next =>
    let n := s.insts[i]
    let t :=
      if (s.sceneOf i).flags.report then sceneReport n.scene (some i) n.origin (.waitTimeout n.cue w.on.kind) s else s
    endRunOff (completeWait i t)

/-! ## Suspension and resume -/

/-- Step 2 of a suspension: the deadlines become remaining times (R144). -/
def Inst.suspend (n : Inst) (now : Time) : Inst :=
  { n with
    state := .suspended
    remDue := n.due.map (remainingTo now)
    remWait := (n.wait.bind (·.deadline)).map (remainingTo now)
    due := none
    wait := n.wait.map (fun w => { w with deadline := none }) }

/-- Suspend an instance (R144). The notice of a frozen axis reaches only its owner, which is SUSPENDED (log
entry 11). -/
def suspend (i : InstIx) (s : State) : State :=
  let n := s.insts[i]
  let c := s.sceneOf i
  let s := s.modInst i (fun r => r.suspend s.now)
  let s := overList (c.groups.filter (fun g => (s.groups[g]).owner == some i)) freezeGroup s
  let s := overList (c.axes.filter (fun a => (s.axes[a]).owner == some i)) (fun a t => (freezeAxis a t).1) s
  if c.flags.report then sceneReport n.scene (some i) n.origin .suspended s else s

/-- Steps 1 and 2 of a resume: RUNNING, with the deadlines set again from the remaining times (R145). -/
def Inst.resume (n : Inst) (now : Time) : Inst :=
  { n with
    state := .running
    due := n.remDue.map (later now)
    wait := n.wait.map (fun w => { w with deadline := n.remWait.map (later now) })
    remDue := none
    remWait := none }

/-- Step 4 of a resume: whether a held wait is tested and met (R145). -/
def retested (s : State) (i : InstIx) : Bool := (s.insts[i]).wait.any (fun w => waitMet s w.on)

/-- Resume an instance (R145), and the instances that ran off cue memory. -/
def resume (i : InstIx) (s : State) : State × List InstIx :=
  let n := s.insts[i]
  let c := s.sceneOf i
  let s := s.modInst i (fun r => r.resume s.now)
  let s := overList (c.groups.filter (fun g => (s.groups[g]).owner == some i)) resumeGroup s
  let r := if retested s i then completeWait i s else (s, [])
  (if c.flags.report then sceneReport n.scene (some i) n.origin .resumed r.1 else r.1, r.2)

/-! ## Bay changes -/

/-- Whether the Cue Engine suspends an instance's scene at an entry to HOLD (R143). -/
def SceneFlags.suspends (f : SceneFlags) : Bool := !f.safety && !f.holdAbort

/-- Whether the Cue Engine resumes a SUSPENDED instance's scene when its bay leaves HOLD for a state (R143). -/
def SceneFlags.resumes (f : SceneFlags) : BayState → Bool
  | .attract => f.attract
  | .live => f.live
  | .dark | .hold | .service => false

/-- A bay change at the Cue Engine, and the instances that ran off cue memory at a resume (R143, R145). The manual does
not say whether such an instance ends before the later ones resume: it ends after all of them (DESIGN CHOICE, unsafe,
log entry 33). -/
def cueBayChange (b : BayIx) (old new : BayState) (s : State) : State × List InstIx :=
  gather (List.finRange 12) (fun i t =>
    let n := t.insts[i]
    let c := t.sceneOf i
    if c.bay ≠ b then (t, [])
    else if new = .hold ∧ n.state = .running ∧ c.flags.suspends = true then (suspend i t, [])
    else if old = .hold ∧ n.state = .suspended ∧ c.flags.resumes new = true then resume i t
    else (t, [])) s

end Sys2Proof.Machine
end

