-- ==== Sys2Proof/Machine/Bays.lean ====
section
/-! DEFINITION. The Bay Controller: changes of state (R45), occupancy (R40), expiries (R41, R43), intrusion notices
(R42), fault notices (R44), the exit test (R46), the bay commands' acts (R47 to R51) and BAY reports (R52); and the axis
fault, which ends a scene and may hold a bay (R183). -/

namespace Sys2Proof.Machine

/-! ## Handing over a change -/

/-- The blocks that take a bay change (R45, step 3). -/
inductive Taker | admission | cues | narration | motion
deriving DecidableEq, Repr

/-- A list with an element put in at a place. -/
def putAt {α : Type} (k : Nat) (x : α) (l : List α) : List α := l.take k ++ x :: l.drop k

/-- The order of the takers that a free value picks: each of the 24 orders for some value (log entry 3). -/
def takersOf (k : Nat) : List Taker :=
  putAt (k % 4) .motion (putAt (k / 4 % 3) .narration (if k / 12 % 2 = 0 then [.admission, .cues] else [.cues, .admission]))

/-- The instances whose waits an act completed and whose next cue is due at once (R141, R180). -/
def completedDue (before after : State) : List InstIx :=
  (List.finRange 12).filter (fun i =>
    (before.insts[i]).wait.isSome && (after.insts[i]).wait.isNone && (after.insts[i]).state == .running &&
      expired after.now (after.insts[i]).due)

/-- The due event of an instance whose due time is reached; any other instance is left as it is (R131). -/
def dueIfReached (i : InstIx) (s : State) : State :=
  if expired s.now (s.insts[i]).due then dueEvent i s else s

/-- The Motion Governor takes a bay change; with `early`, cues that its freezes made due at once run in the bay's new
state before a later taker has the change (R180). The manual lets each such cue run early or not, in any order: here all
of them run, in ascending instance number, or none (DESIGN CHOICE, unsafe, log entry 39). -/
def motionTakes (b : BayIx) (new : BayState) (early : Bool) (s : State) : State :=
  let t := endRunOff (motionBayChange b new s)
  if early then overList (completedDue s t) dueIfReached t else t

/-- One block takes a bay change (R45, step 3), whole: the Motion Governor with all its freezes and their notices (R180;
DESIGN CHOICE, unsafe, log entry 44). What ran off cue memory within it ends once the block is done (DESIGN
CHOICE, unsafe, log entry 33). -/
def Taker.take (b : BayIx) (old new : BayState) (early : Bool) (k : Taker) (s : State) : State :=
  match k with
  | .admission => admissionBayChange b new s
  | .cues => endRunOff (cueBayChange b old new s)
  | .narration => narrationBayChange b new s
  | .motion => motionTakes b new early s

/-- Whether at most one block has work at a change of this bay, so that their order decides nothing: no busy instance of
the bay, no wait entry, no MOVING axis of the bay. -/
def bayQuiet (s : State) (b : BayIx) : Bool :=
  s.waitList.isEmpty && (List.finRange 12).all (fun i => !((s.insts[i]).busy && (s.sceneOf i).bay == b)) &&
    (List.finRange 24).all (fun a => !((s.axes[a]).state == .moving && (s.axes[a]).bay == b))

/-- Hand a bay change to the four blocks: in the order R45 lists them when the order decides nothing, else in the order
a free value picks (R45, R143, R180, log entry 3). Each block takes the change whole before or after each other one: none
takes it between two freezes of the Motion Governor (DESIGN CHOICE, unsafe, log entry 44). -/
def handOver (b : BayIx) (old new : BayState) (s : State) : State :=
  if bayQuiet s b then overList [Taker.admission, .cues, .narration, .motion] (Taker.take b old new false) s
  else
    let k := (Config.bayOrder s.choices).val
    overList (takersOf (k / 2)) (Taker.take b old new (k % 2 == 1)) s.choose

/-! ## Changes of state -/

/-- Offer the BAY report of a change (R52). -/
def bayReport (b : BayIx) (old : BayState) (cause : BayCause) (s : State) : State :=
  let r := s.bays[b]
  offerReport (.bay b old r.state cause r.causes r.occupancy r.intrusions.length) s

/-- A bay record with a new state (R45, steps 1 and 2). -/
def Bay.enter (r : Bay) (new : BayState) (now : Time) : Bay :=
  { r with state := new, entryTime := now, linger := if r.state = .live then none else r.linger }

/-- The attract scene's request at an entry to ATTRACT (R45, step 4). -/
def attractRequest (b : BayIx) (new : BayState) (s : State) : State :=
  match new, (s.bays[b]).attractScene with
  | .attract, some c => (request c .bay s).1
  | _, _ => s

/-- A change of a bay's state (R45). -/
def enterState (b : BayIx) (new : BayState) (cause : BayCause) (s : State) : State :=
  let old := s.bayState b
  bayReport b old cause (attractRequest b new (handOver b old new (s.modBay b (fun r => r.enter new s.now))))

/-- Whether a bay state is one that causes hold: ATTRACT or LIVE (R42, R44, R49). -/
def BayState.holdable : BayState → Bool
  | .attract | .live => true
  | .dark | .hold | .service => false

/-! ## Occupancy -/

/-- The occupancy at which an ENTER overflows (R40). -/
def occupancyMax : Nat := 250

/-- An ENTER (R40). -/
def enterBay (b : BayIx) (s : State) : State :=
  let r := s.bays[b]
  if r.occupancy = occupancyMax then s.modBay b (fun q => { q with overflow := satInc Config.countMax q.overflow })
  else
    let t := s.modBay b (fun q =>
      { q with occupancy := q.occupancy + 1, linger := if q.state = .live then none else q.linger })
    if r.state = .attract ∧ r.occupancy = 0 then enterState b .live .entered t else t

/-- A LEAVE (R40). -/
def leaveBay (b : BayIx) (s : State) : State :=
  let r := s.bays[b]
  if r.occupancy = 0 then s.modBay b (fun q => { q with underflow := satInc Config.countMax q.underflow })
  else
    s.modBay b (fun q =>
      { q with
        occupancy := q.occupancy - 1
        linger := if q.state = .live ∧ q.occupancy = 1 then some (later s.now q.lingerTime) else q.linger })

/-- The expiry of a linger deadline (R41). -/
def lingerExpires (b : BayIx) (s : State) : State :=
  let t := s.modBay b (fun q => { q with linger := none })
  if s.bayState b = .live then enterState b .attract .linger t else t

/-! ## Intrusion and hold causes -/

/-- The intrusion set after a notice (R42). -/
def noticed (set : List TrigIx) (e : TrigIx) (active : Bool) : List TrigIx :=
  if active then (if set.contains e then set else set ++ [e]) else set.filter (fun x => x != e)

/-- A bay record after an intrusion notice, before a change of state (R42). -/
def Bay.intrude (r : Bay) (e : TrigIx) (active : Bool) (now : Time) : Bay :=
  let set := noticed r.intrusions e active
  let q := { r with intrusions := set }
  if r.intrusions.isEmpty = true ∧ set.isEmpty = false then
    { q with causes := { r.causes with sensor := true }, holdRelease := none }
  else if r.intrusions.isEmpty = false ∧ set.isEmpty = true then
    { q with holdRelease := some (later now r.holdReleaseTime) }
  else q

/-- An intrusion notice: the bay enters HOLD when SENSOR is added in ATTRACT or LIVE (R42). -/
def intrusionNotice (e : TrigIx) (b : BayIx) (active : Bool) (s : State) : State :=
  let r := s.bays[b]
  let t := s.modBay b (fun q => q.intrude e active s.now)
  if r.causes.sensor = false ∧ (t.bays[b]).causes.sensor = true ∧ r.state.holdable = true then
    enterState b .hold .sensor t
  else t

/-- The exit test of a bay in HOLD (R46). -/
def exitTest (b : BayIx) (cause : BayCause) (s : State) : State :=
  let r := s.bays[b]
  if r.causes.sensor || r.causes.command || r.causes.fault then s
  else enterState b (if r.occupancy = 0 then .attract else .live) cause s

/-- The expiry of a hold release deadline (R43). -/
def holdReleaseExpires (b : BayIx) (s : State) : State :=
  let t := s.modBay b (fun q => { q with holdRelease := none, causes := { q.causes with sensor := false } })
  if s.bayState b = .hold then exitTest b .sensorClear t else t

/-- An axis fault notice (R44). -/
def faultNotice (b : BayIx) (hold : Bool) (s : State) : State :=
  let add (t : State) : State := t.modBay b (fun q => { q with causes := { q.causes with fault := true } })
  match hold, s.bayState b with
  | true, .attract | true, .live => enterState b .hold .fault (add s)
  | true, .hold => add s
  | true, .dark | true, .service | false, _ => s

/-- An ignored-press notice (R53). -/
def ignoredPress (b : BayIx) (s : State) : State :=
  s.modBay b (fun q => { q with ignored := satInc Config.countMax q.ignored })

/-! ## The bay commands' acts -/

/-- COMMAND and FAULT removed from a bay's causes (R48, R50, R51, R55). -/
def Bay.clearHeld (r : Bay) : Bay := { r with causes := { r.causes with command := false, fault := false } }

/-- The state OPEN BAY takes a closed bay to (R47). -/
def Bay.openState (r : Bay) : BayState :=
  if r.causes.sensor then .hold else if 0 < r.occupancy then .live else .attract

/-- OPEN BAY on a bay (R47). -/
def openBay (b : BayIx) (s : State) : State :=
  match s.bayState b with
  | .dark | .service => enterState b (s.bays[b]).openState .opened s
  | .attract | .live | .hold => s

/-- CLOSE BAY on a bay (R48). -/
def closeBay (b : BayIx) (s : State) : State :=
  let t := s.modBay b Bay.clearHeld
  if s.bayState b = .dark then t else enterState b .dark .closed t

/-- HOLD BAY on a bay that may be held (R49). -/
def holdBay (b : BayIx) (s : State) : State :=
  let t := s.modBay b (fun q => { q with causes := { q.causes with command := true } })
  if (s.bayState b).holdable then enterState b .hold .held t else t

/-- Whether HOLD BAY is refused in a bay state (R49). -/
def BayState.refusesHold : BayState → Bool
  | .dark | .service => true
  | .attract | .live | .hold => false

/-- RELEASE BAY on a bay (R50). -/
def releaseBay (b : BayIx) (s : State) : State :=
  if s.bayState b = .hold then exitTest b .released (s.modBay b Bay.clearHeld) else s

/-- SERVICE BAY on a bay (R51). -/
def serviceBay (b : BayIx) (s : State) : State :=
  let t := s.modBay b Bay.clearHeld
  if s.bayState b = .service then t else enterState b .service .serviced t

/-! ## Axis faults -/

/-- A STOPPED axis: a MOVING one takes its last sent value, or its position when it has sent none (R183, step 1). -/
def Axis.fault (a : Axis) (now : Time) : Axis :=
  { a with
    state := .stopped
    pos := if a.state = .moving then a.lastSent.getD (a.position now) else a.pos
    deadline := none }

/-- A faulted axis stops, and the Cue Engine has its change where it was MOVING (R183). -/
def faultStop (a : AxisIx) (s : State) : State :=
  if (s.axes[a]).state = .moving then endRunOff (notify (.motion a) (s.modAxis a (fun y => y.fault s.now)))
  else s.modAxis a (fun y => y.fault s.now)

/-- The owner of a faulted axis ends with reason FAULT (R183). -/
def faultEnd (owner : Option InstIx) (s : State) : State :=
  match owner with | some i => endInstance i .fault s | none => s

/-- The second part of an axis fault, from its stop on: the check is raised and the owner ends (R183). -/
def faultRaise (a : AxisIx) (cause : AxisCause) (s : State) : State :=
  faultEnd (s.axes[a]).owner (raiseCheck (.axis a cause) (s.axes[a]).owner s)

/-- An axis faults: it stops, the Cue Engine has its change, the check is raised, its owner ends, and the Bay Controller
has its notice (R183). -/
def axisFault (a : AxisIx) (cause : AxisCause) (s : State) : State :=
  faultNotice (s.axes[a]).bay (s.axes[a]).holdBay (faultRaise a cause (faultStop a s))

end Sys2Proof.Machine
end

