-- ==== Sys2Proof/Machine/Triggers.lean ====
section
/-! DEFINITION. The Trigger Unit: evaluation of INTRUSION entries (R100, R101), edges (R93), presses (R94 to R97), beams
(R99), the throttle (R98), TRIGGER reports (R102) and what a write of an entry hands over (R92).

A TRIGGER report and what its input hands to another block are two acts of one event whose order the manual leaves open;
with the report flag clear there is one act only (log entry 3). -/

namespace Sys2Proof.Machine

/-- The action of a trigger entry, as a report names it (R91). -/
def TrigAction.kind : TrigAction → ActionKind
  | .none _ => .none
  | .start _ => .start
  | .stop _ => .stop
  | .cue _ => .cue
  | .enter _ => .enter
  | .leave _ => .leave
  | .intrusion _ => .intrusion

/-- Offer a TRIGGER report (R102). -/
def triggerReport (e : Option TrigIx) (l : LineIx) (k : SlotIx) (b : BitIx) (g : Option Edge) (a : Option ActionKind)
    (o : TrigOutcome) (s : State) : State :=
  offerReport (.trigger e l k b g a o) s

/-- Hand an input over and report it, when its entry has the report flag (R102, log entry 3). -/
def reporting (flagged : Bool) (report hand : State → State) (s : State) : State :=
  if flagged then eitherOrder report hand s else hand s

/-- Offer the report of an entry's input (R102). -/
def entryReport (e : TrigIx) (r : TrigEntry) (g : Option Edge) (o : TrigOutcome) (s : State) : State :=
  triggerReport (some e) r.line r.slot r.bit g (some r.action.kind) o s

/-! ## Intrusion inputs -/

/-- Whether a slot record is REPLY with reply kind TRIGGER (R29). -/
def SlotRec.isTrigger (r : SlotRec) : Bool := r.kind == .reply && r.replyKind == .trigger

/-- The evaluated level of an entry's input: whether it counts as ACTIVE (R100). -/
def inputActive (s : State) (e : TrigEntry) : Bool :=
  let l := s.lines[e.line]
  let r := l.inForce[e.slot]
  if r.isTrigger = false then true
  else if (l.nodes[r.node]).presence ≠ .present then true
  else
    match l.prev[e.slot] with
    | none => true
    | some w => w.getLsbD e.bit.val

/-- Evaluate an INTRUSION entry: a changed level is handed to the Bay Controller, and the notified level takes it
(R100). -/
def evaluate (e : TrigIx) (s : State) : State :=
  let r := s.triggers[e]
  match r.action with
  | .intrusion b =>
    let level := inputActive s r
    if level = r.active then s
    else
      reporting r.report (entryReport e r none (if level then .active else .inactive)) (intrusionNotice e b level)
        (s.modTrig e (fun q => { q with active := level }))
  | .none _ | .start _ | .stop _ | .cue _ | .enter _ | .leave _ => s

/-- Evaluate the entries whose key is a slot, in ascending entry order (R101). -/
def evaluateSlot (l : LineIx) (k : SlotIx) (s : State) : State :=
  overAll 128 (fun e t => if (t.triggers[e]).line = l ∧ (t.triggers[e]).slot = k then evaluate e t else t) s

/-- The announcement of a presence change at the Trigger Unit: the entries whose key slot's in-force record is REPLY
TRIGGER for the node are evaluated, in ascending entry order (R101). -/
def evaluateNode (l : LineIx) (n : NodeIx) (s : State) : State :=
  overAll 128 (fun e t =>
    let r := t.slot l (t.triggers[e]).slot
    if (t.triggers[e]).line = l ∧ r.isTrigger = true ∧ r.node = n then evaluate e t else t) s

/-! ## Presses -/

/-- Whether a RUNNING SAFETY instance waits on an entry (R94). -/
def safetyWaits (s : State) (e : TrigIx) : Bool :=
  (List.finRange 12).any (fun i => (s.insts[i]).waitsOn (.trigger e) && (s.sceneOf i).flags.safety)

/-- Whether a press serves a SAFETY scene (R94). -/
def servesSafety (s : State) (e : TrigIx) : Bool :=
  (match (s.triggers[e]).action with
    | .start c | .stop c => (s.scenes[c]).flags.safety
    | .none _ | .cue _ | .enter _ | .leave _ | .intrusion _ => false) || safetyWaits s e

/-- Step 1 of a press: whether the bay state lets it go on (R94). -/
def pressPasses (s : State) (e : TrigIx) (b : BayIx) : Bool :=
  match s.bayState b with
  | .attract | .live => true
  | .dark | .service => false
  | .hold => servesSafety s e

/-- The RUNNING instances that wait on an entry (R96). -/
def waitersOn (s : State) (e : TrigIx) : Nat :=
  ((List.finRange 12).filter (fun i => (s.insts[i]).waitsOn (.trigger e))).length

/-- Step 4 of a press: the entry's action (R97). -/
def pressAction (e : TrigIx) (r : TrigEntry) (g : Edge) (s : State) : State :=
  match r.action with
  | .start c => reporting r.report (entryReport e r (some g) .startSent) (fun t => (request c .trigger t).1) s
  | .stop c => reporting r.report (entryReport e r (some g) .stopSent) (fun t => (stopRequest c t).1) s
  | .cue _ | .none _ | .enter _ | .leave _ | .intrusion _ =>
    if r.report then entryReport e r (some g) .noAction s else s

/-- Steps 3 and 4 of an accepted press: it meets every wait on its entry, or its action is carried out (R96, R97). -/
def acceptedPress (e : TrigIx) (r : TrigEntry) (g : Edge) (s : State) : State :=
  let n := waitersOn s e
  if n = 0 then pressAction e r g s
  else reporting r.report (entryReport e r (some g) (.waitMet n)) (fun t => endRunOff (notify (.trigger e) t)) s

/-- A press on an entry, in a bay (R94 to R97). -/
def press (e : TrigIx) (b : BayIx) (g : Edge) (s : State) : State :=
  let r := s.triggers[e]
  if pressPasses s e b = false then ignoredPress b s
  else if r.credit = 0 then s.modTrig e (fun q => { q with dropped := satInc Config.countMax q.dropped })
  else acceptedPress e r g (s.modTrig e (fun q => { q with credit := q.credit - 1 }))

/-! ## Items and edges -/

/-- The entry whose action is not NONE and whose key is an input bit (R93). -/
def entryAt (s : State) (l : LineIx) (k : SlotIx) (b : BitIx) : Option TrigIx :=
  (List.finRange 128).find? (fun e =>
    let r := s.triggers[e]
    r.action.kind != .none && r.line == l && r.slot == k && r.bit == b)

/-- One edge of an item (R93, R99). -/
def handleEdge (l : LineIx) (k : SlotIx) (b : BitIx) (g : Edge) (s : State) : State :=
  match entryAt s l k b with
  | none => if (s.slot l k).reportUnmatched then triggerReport none l k b (some g) none .unmatched s else s
  | some e =>
    let r := s.triggers[e]
    match r.action with
    | .intrusion _ | .none _ => s
    | .enter bay =>
      if r.edge = g then reporting r.report (entryReport e r (some g) .counted) (enterBay bay) s else s
    | .leave bay =>
      if r.edge = g then reporting r.report (entryReport e r (some g) .counted) (leaveBay bay) s else s
    | .start _ | .stop _ | .cue _ => if r.edge = g then press e (s.slot l k).bay g s else s

/-- The edge of one input bit between two words, if any (R32). -/
def edgeOf (old new : BitVec 16) (b : BitIx) : Option Edge :=
  match old.getLsbD b.val, new.getLsbD b.val with
  | false, true => some .rise
  | true, false => some .fall
  | _, _ => none

/-- A handed item: its edges in ascending bit order, none for a baseline, and then the INTRUSION entries of its slot
(R93, R101). -/
def handleItem (l : LineIx) (k : SlotIx) (old : Option (BitVec 16)) (new : BitVec 16) (s : State) : State :=
  let s :=
    match old with
    | none => s
    | some w =>
      overAll 16 (fun b t => match edgeOf w new b with | some g => handleEdge l k b g t | none => t) s
  evaluateSlot l k s

/-! ## The throttle -/

/-- Every press credit becomes its allowance, and the throttle deadline is set again (R98, R104). -/
def rearmThrottle (s : State) : State :=
  { s with
    triggers := mapAll (fun r => { r with credit := r.allowance }) s.triggers
    throttle := later s.now s.params.throttle }

/-! ## Writing an entry -/

/-- The bay of an INTRUSION action (R91). -/
def TrigAction.intrusionBay : TrigAction → Option BayIx
  | .intrusion b => Option.some b
  | .none _ | .start _ | .stop _ | .cue _ | .enter _ | .leave _ => Option.none

/-- An ACTIVE INTRUSION entry leaves its bay: the bay has its inactive notice, and the change of level is reported when
the entry had the report flag (R92, R102, log entries 3 and 27). -/
def leaveIntrusion (e : TrigIx) (old : TrigEntry) (s : State) : State :=
  match old.action with
  | .intrusion b => reporting old.report (entryReport e old none .inactive) (intrusionNotice e b false) s
  | .none _ | .start _ | .stop _ | .cue _ | .enter _ | .leave _ => s

/-- Write a trigger entry's loaded fields: full credit, dropped-press count 0; an entry that was ACTIVE leaves its old
bay; an entry that is INTRUSION afterwards is evaluated at once (R92). -/
def writeTrigger (e : TrigIx) (new : TrigEntry) (s : State) : State :=
  let old := s.triggers[e]
  let stays := old.action.intrusionBay.isSome && old.action.intrusionBay == new.action.intrusionBay
  let written : TrigEntry :=
    { new with credit := new.allowance, dropped := 0, active := if stays then old.active else false }
  let t := s.modTrig e (fun _ => written)
  evaluate e (if old.active = true ∧ stays = false then leaveIntrusion e old t else t)

end Sys2Proof.Machine
end

