-- ==== Sys2Proof/Machine/Lines.lean ====
section
/-! DEFINITION. The Line Engine: the frame start with its take-up and contents (R19, R22, R25, R61, R81), reply windows
(R29), the frame end with its four stages (R30 to R33, R35), starting and stopping a line (R20, R21); and what the Motion
Governor does with a frame end's words and presences (R171, R182, R183). -/

namespace Sys2Proof.Machine

/-! ## The frame start -/

/-- The slots whose in-force record a take-up changes, in ascending order (R22). -/
def changedSlots (s : State) (l : LineIx) : List SlotIx :=
  (List.finRange 48).filter (fun k => decide (s.loadedSlot l k ≠ s.slot l k))

/-- The slots whose in-force kind a take-up changes, in ascending order (R81). -/
def kindChanged (s : State) (l : LineIx) : List SlotIx :=
  (List.finRange 48).filter (fun k => decide ((s.loadedSlot l k).kind ≠ (s.slot l k).kind))

/-- A Line Engine after the take-up of its loads: both copies, and no previous reply word for a changed slot (R22). -/
def LineEngine.takeUp (e : LineEngine) : LineEngine :=
  { e with
    inForce := e.loaded
    params := e.loadedParams
    prev := tabulate 48 (fun k => if e.loaded[k] = e.inForce[k] then e.prev[k] else none) }

/-- The take-up of loads at a frame start: slots, parameters, curves, fade records of changed kinds, and the INTRUSION
entries of changed slots (R22, R61, R81, R101, log entry 14). -/
def takeUpLoads (l : LineIx) (s : State) : State :=
  let changed := changedSlots s l
  let kinds := kindChanged s l
  let s := s.modLine l LineEngine.takeUp
  let s := { s with curvesInForce := s.curvesInForce.set l s.curves }
  let s := overList kinds (baseRequest l) s
  overList changed (evaluateSlot l) s

/-- The content of a slot period: the first row of R25 that applies. -/
def slotContent (s : State) (l : LineIx) (k : SlotIx) : Content :=
  let r := s.slot l k
  if (s.lines[l]).params.mask.getLsbD k.val then .quiet
  else
    match r.kind with
    | .off => .quiet
    | .level | .gain =>
      match (s.parks[l])[k] with
      | some p => .value r.node p
      | none => .value r.node (slotValue s l k)
    | .axis =>
      let a := s.axes[r.axis]
      if a.state = .unsynced then .quiet else .value r.node (a.position s.now)
    | .reply => .poll r.node

/-- The value a content sends, for the sent record of an AXIS slot (R28). -/
def Content.sentValue : Content → Option Nat
  | .value _ v => some v
  | .quiet | .poll _ => none

/-- The reply window a content opens (R29). -/
def Content.window : Content → Window
  | .poll _ => .opened
  | .quiet | .value _ _ => .none

/-- Fix the contents of the 48 slot periods, with the sent record and the reply windows (R25, R28, R29). -/
def fixContents (l : LineIx) (s : State) : State :=
  let fixed := tabulate 48 (slotContent s l)
  s.modLine l (fun e =>
    { e with
      content := fixed
      sent := tabulate 48 (fun k => if (e.inForce[k]).kind = .axis then (fixed[k]).sentValue else none)
      windows := mapAll Content.window fixed })

/-- The contents of a frame are fixed, what is sent is remembered, and the clip fills its window (R19). -/
def frameContents (l : LineIx) (s : State) : State := fillWindow l (noteLastSent l (fixContents l s))

/-- The frame start event (R19, log entry 14). -/
def frameStart (l : LineIx) (s : State) : State :=
  frameContents l (syncAtStart l (takeUpLoads l
    (s.modLine l (fun e => { e with nextStart := none, frame := some s.now }))))

/-! ## Reply windows -/

/-- Whether a reply word has good parity: an even number of ones among its 17 bits (R29). -/
def goodParity (w : BitVec 17) : Bool := ((List.range 17).filter (fun k => w.getLsbD k)).length % 2 == 0

/-- The close of an open reply window: valid, bad or missed (R29). -/
def closeWindow (l : LineIx) (k : SlotIx) (word : Option (BitVec 17)) (s : State) : State :=
  let set (w : Window) (t : State) : State := t.modLine l (fun e => { e with windows := e.windows.set k w })
  match word with
  | none => set .missed s
  | some w =>
    if goodParity w then set (.valid (w.setWidth 16)) s
    else
      raiseCheck (.reply l k (s.slot l k).node) none
        ((set .missed s).modLine l (fun e => { e with replyErrors := satInc Config.countMax e.replyErrors }))

/-! ## Stage 1 of the frame end: reply words -/

/-- The node of a slot is PRESENT. -/
def nodePresent (s : State) (l : LineIx) (n : NodeIx) : Bool := ((s.lines[l]).nodes[n]).presence == .present

/-- A valid TRIGGER word: a baseline or a word with edges, which becomes the slot's previous reply word (R32). Where the
node left PRESENT since the slot's last valid word and is PRESENT again by another slot's word, R32's two conditions make
no baseline and its later sentence makes one: the word is compared with the kept word (DESIGN CHOICE, unsafe, log
entry 36). -/
def triggerWord (l : LineIx) (k : SlotIx) (w : BitVec 16) (s : State) : State :=
  let old := if nodePresent s l (s.slot l k).node then ((s.lines[l]).prev)[k] else none
  handleItem l k old w (s.modLine l (fun e => { e with prev := e.prev.set k (some w) }))

/-- The value the setpoint slot of an axis carried in the frame in progress, when its feedback on this line may be
compared with it (R33, R182, log entry 19). -/
def comparedValue (s : State) (l : LineIx) (a : AxisIx) : Option Nat :=
  let x := s.axes[a]
  let r := s.slot l x.setpoint.2
  if 0 < x.tolerance ∧ x.setpoint.1 = l ∧ r.kind = .axis ∧ r.axis = a then ((s.lines[l]).sent)[x.setpoint.2] else none

/-- The following check of an accepted word (R182). -/
def followingCheck (l : LineIx) (a : AxisIx) (reported : Nat) (s : State) : State :=
  match comparedValue s l a with
  | none => s
  | some v =>
    let x := s.axes[a]
    if x.tolerance < dist reported v then
      let t := s.modAxis a (fun y => { y with following := satInc 15 y.following })
      if x.faultCount ≤ (t.axes[a]).following then axisFault a .following t else t
    else s.modAxis a (fun y => { y with following := 0 })

/-- A valid POSITION word at the Motion Governor (R171). -/
def positionWord (l : LineIx) (k : SlotIx) (w : BitVec 16) (s : State) : State :=
  let a := (s.slot l k).axis
  let x := s.axes[a]
  if x.feedback = some (l, k) then
    match x.state with
    | .unsynced => s.modAxis a (fun y => y.sync w.toNat)
    | .idle | .moving => followingCheck l a w.toNat s
    | .stopped => s
  else s

/-- The acts of a frame's valid words of one reply kind, in ascending slot order (R30). -/
def wordActs (s : State) (l : LineIx) (kind : ReplyKind) (act : SlotIx → BitVec 16 → State → State) :
    List (State → State) :=
  (List.finRange 48).filterMap (fun k =>
    match ((s.lines[l]).windows)[k] with
    | .valid w => if (s.slot l k).replyKind = kind then some (act k w) else none
    | .none | .opened | .missed => none)

/-- Do two runs of acts, each in its own order, interleaved as free values pick; no choice is taken when one run is
empty (log entries 3 and 15). The number bounds the acts. -/
def interleave : Nat → List (State → State) → List (State → State) → State → State
  | n + 1, f :: fs, g :: gs, s =>
    match Config.actOrder s.choices with
    | true => interleave n fs (g :: gs) (f s.choose)
    | false => interleave n (f :: fs) gs (g s.choose)
  | _, fs, gs, s => (fs ++ gs).foldl (fun t f => f t) s

/-- Stage 1 of the frame end (R30, R32, R33). -/
def replyWords (l : LineIx) (s : State) : State :=
  interleave 96 (wordActs s l .trigger (triggerWord l)) (wordActs s l .position (positionWord l)) s

/-! ## Stage 2 of the frame end: presence -/

/-- The outcomes of a node's reply windows in the frame (R31). -/
def nodeWindows (s : State) (l : LineIx) (n : NodeIx) : List Window :=
  (List.finRange 48).filterMap (fun k =>
    let w := ((s.lines[l]).windows)[k]
    if w ≠ .none ∧ (s.slot l k).node = n then some w else none)

/-- Whether a window closed with a valid word. -/
def Window.isValid : Window → Bool
  | .valid _ => true
  | .none | .opened | .missed => false

/-- A node settled on its windows' outcomes (R31). -/
def Node.settle (n : Node) (ws : List Window) : Node :=
  if ws = [] then { presence := .unknown, misses := 0 }
  else if ws.any Window.isValid then { presence := .present, misses := 0 }
  else
    let m := satInc 3 n.misses
    { presence := if m = 3 then .absent else n.presence, misses := m }

/-- The axes whose feedback a node's loss takes away: IDLE or MOVING, with a feedback slot on the line whose in-force
record addresses the node (R183, log entry 19). -/
def feedbackAxes (s : State) (l : LineIx) (n : NodeIx) : List AxisIx :=
  (List.finRange 24).filter (fun a =>
    let x := s.axes[a]
    (x.state == .idle || x.state == .moving) &&
      (match x.feedback with
        | some (fl, k) => fl == l && (s.slot l k).kind != .off && (s.slot l k).node == n
        | none => false))

/-- The loss of a node at the Motion Governor: each axis that is still IDLE or MOVING faults (R183). The manual gives the
axes of one node no order: they fault in the order of the list, which ascends (DESIGN CHOICE, unsafe, log entry 38). -/
def feedbackLost (axes : List AxisIx) (s : State) : State :=
  overList axes (fun a t =>
    match (t.axes[a]).state with
    | .idle | .moving => axisFault a .feedbackLost t
    | .unsynced | .stopped => t) s

/-- The announcement of a changed presence to the Trigger Unit and the Motion Governor (R31, log entries 3 and 15). -/
def announce (l : LineIx) (n : NodeIx) (new : Presence) (s : State) : State :=
  let lost := if new = .absent then feedbackAxes s l n else []
  if lost = [] then evaluateNode l n s else eitherOrder (evaluateNode l n) (feedbackLost lost) s

/-- Settle one node: its presence, the NODE check of an entry to ABSENT, and the announcement of a change (R31). The
manual gives the check and the announcement no order: the check is raised first (DESIGN CHOICE, unsafe, log
entry 29). -/
def settleNode (l : LineIx) (n : NodeIx) (s : State) : State :=
  let old := ((s.lines[l]).nodes)[n]
  let new := old.settle (nodeWindows s l n)
  let s := s.modLine l (fun e => { e with nodes := e.nodes.set n new })
  if new.presence = old.presence then s
  else
    let s := if new.presence = .absent then raiseCheck (.node l n) none s else s
    announce l n new.presence s

/-! ## Stages 3 and 4, and starting and stopping -/

/-- Stage 3 of the frame end: every carried chunk completes, in the order sent (R35, R162). The manual does not say when
an instance ends that a chunk's DONE notice ran off cue 2,047: once that chunk is complete, and before the next one
(DESIGN CHOICE, unsafe, log entry 40). -/
def completeWindow (l : LineIx) (start : Time) (s : State) : State :=
  let carried := (s.lines[l]).block
  overList carried (fun c t => endRunOff (completeChunk start c t)) (s.modLine l (fun e => { e with block := [] }))

/-- The stop of a line: OFF, its nodes UNKNOWN, no previous reply words, and the changed presences announced (R21,
R101). The manual gives the announcements no order among themselves: they come in ascending node number, after every
node and every previous word of the line is cleared (DESIGN CHOICE, unsafe, log entry 30). -/
def stopLine (l : LineIx) (s : State) : State :=
  let changed := (List.finRange 16).filter (fun n => (((s.lines[l]).nodes)[n]).presence != .unknown)
  let s := s.modLine l (fun e =>
    { e with
      running := false
      stopPending := false
      nextStart := none
      frame := none
      nodes := Vector.replicate 16 {}
      prev := Vector.replicate 48 none })
  overList changed (fun n => announce l n .unknown) s

/-- Stage 4 of the frame end: the next frame start one in-force interval after this frame's start, or the stop (R19,
R21). -/
def endFrame (l : LineIx) (start : Time) (s : State) : State :=
  if (s.lines[l]).stopPending then stopLine l s
  else s.modLine l (fun e => { e with frame := none, nextStart := some (later start e.params.interval) })

/-- The frame end event of a frame that started at a part time (R30, log entry 15). -/
def frameEnd (l : LineIx) (start : Time) (s : State) : State :=
  let s := replyWords l (refillLine l s)
  let s := overAll 16 (settleNode l) s
  endFrame l start (completeWindow l start s)

/-- LINE ON on a line (R20). -/
def lineOn (l : LineIx) (s : State) : State :=
  s.modLine l (fun e =>
    if e.running then { e with stopPending := false }
    else { e with running := true, stopPending := false, nextStart := some s.now })

/-- LINE OFF on a line (R21). -/
def lineOff (l : LineIx) (s : State) : State :=
  let e := s.lines[l]
  if e.running = false then s
  else if e.frame.isSome then s.modLine l (fun e => { e with stopPending := true })
  else stopLine l s

end Sys2Proof.Machine
end

