-- ==== Sys2Proof/Machine/Operands.lean ====
section
/-! DEFINITION. The operand bytes of commands and table entries (layouts 12.2 and 12.3): every field read from its bytes,
the values a field cannot represent (R13, R196), and the clamps (R14). A parser answers none where the entry holds a
value its field cannot represent; bytes a layout ignores take no part (R196). -/

namespace Sys2Proof.Machine

/-! ## Fields -/

/-- The number in one byte of an entry. -/
def num1 (e : List Byte) (k : Nat) : Nat := (e.getD k 0).toNat
/-- The number in two bytes of an entry. -/
def num2 (e : List Byte) (k : Nat) : Nat := be2 (e.getD k 0) (e.getD (k + 1) 0)
/-- The number in three bytes of an entry. -/
def num3 (e : List Byte) (k : Nat) : Nat := num1 e k * 65536 + num2 e (k + 1)
/-- The number in four bytes of an entry. -/
def num4 (e : List Byte) (k : Nat) : Nat := num2 e k * 65536 + num2 e (k + 2)
/-- A flag of an entry. -/
def flagAt (e : List Byte) (k bit : Nat) : Bool := (e.getD k 0).getLsbD bit
/-- An index in one byte of an entry, none beyond its range. -/
def ix (n : Nat) (e : List Byte) (k : Nat) : Option (Fin n) := index? n (num1 e k)

/-- A line and a slot in two bytes of an entry. -/
def lineSlot (e : List Byte) (k : Nat) : Option (LineIx × SlotIx) :=
  match ix 6 e k, ix 48 e (k + 1) with
  | some l, some s => some (l, s)
  | _, _ => none

/-- A line and a slot, or none at a line byte of FFh (12.3); the outer none is a value that cannot be represented. -/
def optLineSlot (e : List Byte) (k : Nat) : Option (Option (LineIx × SlotIx)) :=
  if num1 e k = 255 then some none else (lineSlot e k).map some

/-- A run of one-byte indexes, none when one is beyond its range. -/
def indexes (n : Nat) : List Byte → Option (List (Fin n))
  | [] => some []
  | b :: rest =>
    match index? n b.toNat, indexes n rest with
    | some k, some l => some (k :: l)
    | _, _ => none

/-! ## Table entries -/

/-- A PARAMS entry with its clamps (R14). -/
def parseParams (e : List Byte) : Option Params :=
  some
    { throttle := clampTo 250 10000 (num2 e 0), stale := clampTo 100 10000 (num2 e 2),
      ambientReserve := clampTo 0 1536 (num2 e 4), sceneReserve := clampTo 0 1536 (num2 e 6) }

/-- A WATCH entry's universe (R56); the outer none is a value that cannot be represented. -/
def parseWatch (e : List Byte) : Option (Option UniverseIx) :=
  if num2 e 0 = 65535 then some none else (index? 1024 (num2 e 0)).map some

/-- Slot kind codes (2.3). -/
def slotKindOf : Nat → Option SlotKind
  | 0 => some .off | 1 => some .level | 2 => some .gain | 3 => some .axis | 4 => some .reply | _ => none

/-- A patch: a watch entry and a channel, or none at an entry byte of FFh (12.3). -/
def parsePatch (e : List Byte) (k : Nat) : Option (Option (WatchIx × Fin 256)) :=
  if num1 e k = 255 then some none
  else
    match ix 8 e k, ix 256 e (k + 1) with
    | some w, some c => some (some (w, c))
    | _, _ => none

/-- Merge codes (2.3). -/
def mergeOf : Nat → Option Merge | 0 => some .take | 1 => some .highest | _ => none

/-- A SLOT entry (R23). -/
def parseSlot (e : List Byte) : Option SlotRec := do
  let kind ← slotKindOf (num1 e 0)
  let node ← ix 16 e 1
  let bay ← ix 16 e 2
  let patch ← parsePatch e 3
  let merge ← mergeOf (num1 e 5)
  let curve ← ix 8 e 6
  let axis ← ix 24 e 8
  some
    { kind := kind, node := node, bay := bay, patch := patch, merge := merge, curve := curve,
      workLight := flagAt e 7 0, reportUnmatched := flagAt e 7 1,
      replyKind := if flagAt e 7 2 then .position else .trigger, axis := axis, ceiling := num2 e 9 }

/-- A LINE entry with its clamps; slot 0 is bit 0 of the last mask byte (R24, 12.3). -/
def parseLine (e : List Byte) : Option LineParams :=
  some
    { interval := clampTo 5 250 (num2 e 0), allowance := clampTo 0 12 (num1 e 2),
      mask := BitVec.ofNat 48 (num2 e 3 * 4294967296 + num4 e 5) }

/-- A CURVE entry (R61). -/
def parseCurve (e : List Byte) : Option Curve := some (tabulate 17 (fun k => num2 e (2 * k.val)))

/-- The members of a GROUP entry: a number of line and slot pairs. -/
def parseMembers (e : List Byte) : Nat → Nat → Option (List (LineIx × SlotIx))
  | 0, _ => some []
  | n + 1, k =>
    match lineSlot e k, parseMembers e n (k + 2) with
    | some m, some l => some (m :: l)
    | _, _ => none

/-- A GROUP entry: a count up to 16 and that many members (R83). -/
def parseGroup (e : List Byte) : Option (List (LineIx × SlotIx)) :=
  if num1 e 0 ≤ 16 then parseMembers e (num1 e 0) 1 else none

/-- A scene byte that may hold FFh for none (R38). -/
def parseAttract (e : List Byte) (k : Nat) : Option (Option SceneIx) :=
  if num1 e k = 255 then some none else (ix 96 e k).map some

/-- The loaded fields of a bay record (R38). -/
structure BayLoad where
  lingerTime : Nat
  holdReleaseTime : Nat
  attractMaster : Nat
  liveMaster : Nat
  audioMaster : Nat
  workFloor : Nat
  attractScene : Option SceneIx
deriving DecidableEq, Repr

/-- A BAY entry with its clamps (R38). -/
def parseBay (e : List Byte) : Option BayLoad := do
  let scene ← parseAttract e 11
  some
    { lingerTime := clampTo 0 Config.longest (num4 e 0), holdReleaseTime := clampTo 1000 60000 (num2 e 4),
      attractMaster := num1 e 6, liveMaster := num1 e 7, audioMaster := num1 e 8, workFloor := num2 e 9,
      attractScene := scene }

/-- A trigger action code with its operand byte (R91). -/
def parseAction (code : Nat) (operand : Byte) : Option TrigAction :=
  match code with
  | 0 => some (.none operand)
  | 1 => (index? 96 operand.toNat).map .start
  | 2 => (index? 96 operand.toNat).map .stop
  | 3 => some (.cue operand)
  | 4 => (index? 16 operand.toNat).map .enter
  | 5 => (index? 16 operand.toNat).map .leave
  | 6 => (index? 16 operand.toNat).map .intrusion
  | _ => none

/-- Edge codes (R91). -/
def edgeCode : Nat → Option Edge | 0 => some .rise | 1 => some .fall | _ => none

/-- A TRIGGER entry with its clamp; the runtime fields are set at the write (R91, R92). -/
def parseTrigger (e : List Byte) : Option TrigEntry := do
  let action ← parseAction (num1 e 0) (e.getD 5 0)
  let line ← ix 6 e 1
  let slot ← ix 48 e 2
  let bit ← ix 16 e 3
  let edge ← edgeCode (num1 e 4)
  some
    { action := action, line := line, slot := slot, bit := bit, edge := edge,
      allowance := clampTo 1 15 (num1 e 6), report := flagAt e 7 0 }

/-- A claim list: a count up to a limit, then that many indexes; bytes beyond the count are ignored (12.3, log
entry 18). -/
def parseClaims (n limit : Nat) (e : List Byte) (k : Nat) : Option (List (Fin n)) :=
  if num1 e k ≤ limit then indexes n ((e.drop (k + 1)).take (num1 e k)) else none

/-- A SCENE entry with its clamps; the ready time and the cooling flag are the runtime fields a write keeps (R105). -/
def parseScene (e : List Byte) : Option Scene := do
  let bay ← ix 16 e 0
  let priority ← ix 8 e 1
  let first ← index? 2048 (num2 e 15)
  let groups ← parseClaims 64 8 e 17
  let zones ← parseClaims 24 2 e 26
  let axes ← parseClaims 24 4 e 29
  some
    { bay := bay, priority := priority,
      flags :=
        { attract := flagAt e 2 0, live := flagAt e 2 1, safety := flagAt e 2 2, restart := flagAt e 2 3,
          holdAbort := flagAt e 2 4, report := flagAt e 2 5 },
      release := clampTo 0 Config.longest (num4 e 3), cooldown := clampTo 0 Config.longest (num4 e 7),
      waitLimit := clampTo 0 120000 (num4 e 11), first := first, groups := groups, zones := zones, axes := axes }

/-- Timeout action codes (R127). -/
def actionOf : Nat → Option TimeoutAction | 0 => some .next | 1 => some .endIt | _ => none

/-- A LIGHT cue's operands; the fade time is clamped (R128, R129). -/
def parseLight (e : List Byte) : Option CueKind :=
  match ix 64 e 3, num1 e 4 with
  | some g, 0 => some (.light g false (num2 e 5) (clampTo 0 Config.longest (num3 e 7)))
  | some g, 1 => some (.light g true (num2 e 5) (clampTo 0 Config.longest (num3 e 7)))
  | _, _ => none

/-- A VOICE cue's operands (R128). -/
def parseVoice (e : List Byte) : Option CueKind :=
  match ix 24 e 3 with
  | some z => if num2 e 4 ≤ 4095 then some (.voice z (num2 e 4)) else none
  | none => none

/-- A MOVE cue's operands (R128). -/
def parseMove (e : List Byte) : Option CueKind :=
  match ix 24 e 3 with
  | some a => if num2 e 6 ≤ 16383 then some (.move a (num2 e 4) (num2 e 6)) else none
  | none => none

/-- A wait cue's operands: an object, a timeout and an action (R128). -/
def parseWait (n : Nat) (make : Fin n → Nat → TimeoutAction → CueKind) (e : List Byte) : Option CueKind :=
  match ix n e 3, actionOf (num1 e 6) with
  | some o, some a => some (make o (num2 e 4) a)
  | _, _ => none

/-- A cue's kind and operands (R128, 12.3): byte 2 holds the kind, and the operand bytes begin at byte 3. -/
def parseKind (e : List Byte) : Option CueKind :=
  match num1 e 2 with
  | 0 => some .endScene
  | 1 => parseLight e
  | 2 => parseVoice e
  | 3 => parseMove e
  | 4 => parseWait 128 .waitTrigger e
  | 5 => parseWait 24 .waitMotion e
  | 6 => parseWait 24 .waitClip e
  | 7 => if num2 e 3 ≤ 4095 then some (.jump (num2 e 3) (num1 e 5)) else none
  | _ => some (.unknown (e.getD 2 0) (e.drop 3))

/-- A CUE entry (R129). -/
def parseCue (e : List Byte) : Option CueRec := (parseKind e).map (fun k => { delay := num2 e 0, kind := k })

/-- The loaded fields of a speaker zone (R150). -/
structure ZoneLoad where
  bay : BayIx
  line : LineIx
  node : NodeIx
  bedSlot : Option (LineIx × SlotIx)
  duckLevel : Nat
  duckTime : Nat
  restoreTime : Nat
  pace : Nat
  limit : Nat
  pauseLevel : Nat
  resumeLevel : Nat
  ambientEnable : Bool
deriving DecidableEq, Repr

/-- A ZONE entry with its clamps (R150). -/
def parseZone (e : List Byte) : Option ZoneLoad := do
  let bay ← ix 16 e 0
  let line ← ix 6 e 1
  let node ← ix 16 e 2
  let bed ← optLineSlot e 3
  some
    { bay := bay, line := line, node := node, bedSlot := bed, duckLevel := num2 e 5,
      duckTime := clampTo 0 Config.longest (num4 e 7), restoreTime := clampTo 0 Config.longest (num4 e 11),
      pace := num2 e 15, limit := clampTo 8 512 (num2 e 17), pauseLevel := clampTo 0 512 (num2 e 19),
      resumeLevel := clampTo 0 512 (num2 e 21), ambientEnable := flagAt e 23 0 }

/-- The loaded fields of an axis (R169). -/
structure AxisLoad where
  bay : BayIx
  setpoint : LineIx × SlotIx
  feedback : Option (LineIx × SlotIx)
  kl : Nat
  sl : Nat
  su : Nat
  ku : Nat
  maxSpeed : Nat
  slowSpeed : Nat
  defaultSpeed : Nat
  tolerance : Nat
  faultCount : Nat
  cbs : Nat
  ebs : Nat
  rate : Nat
  holdBay : Bool
deriving DecidableEq, Repr

/-- An AXIS entry with its clamps (R169). -/
def parseAxis (e : List Byte) : Option AxisLoad := do
  let bay ← ix 16 e 0
  let setpoint ← lineSlot e 1
  let feedback ← optLineSlot e 3
  some
    { bay := bay, setpoint := setpoint, feedback := feedback, kl := num2 e 5, sl := num2 e 7, su := num2 e 9,
      ku := num2 e 11, maxSpeed := clampTo 1 16383 (num2 e 13), slowSpeed := clampTo 1 16383 (num2 e 15),
      defaultSpeed := clampTo 1 16383 (num2 e 17), tolerance := num2 e 19, faultCount := clampTo 1 15 (num1 e 21),
      cbs := num2 e 22, ebs := num2 e 24, rate := num2 e 26, holdBay := flagAt e 28 0 }

/-! ## Command operands -/

/-- The header of a LOAD or a READ: table, line, first index, count, and what follows (12.2). -/
structure Header where
  table : Byte
  line : Byte
  first : Nat
  count : Nat
  rest : List Byte
deriving DecidableEq, Repr

/-- The header of a LOAD's or a READ's operands; none when the six bytes are not there. -/
def parseHeader : List Byte → Option Header
  | t :: l :: f1 :: f0 :: c1 :: c0 :: rest =>
    some { table := t, line := l, first := be2 f1 f0, count := be2 c1 c0, rest := rest }
  | _ => none

/-- The masters SET MASTER names (R67). -/
inductive Master | attract | live | audio
deriving DecidableEq, Repr

/-- Master codes (12.2). -/
def masterOf : Nat → Option Master | 0 => some .attract | 1 => some .live | 2 => some .audio | _ => none

/-- Reporting mode codes (12.2). -/
def modeOf : Nat → Option Mode | 0 => some .quiet | 1 => some .fatal | 2 => some .severe | 3 => some .all | _ => none

/-- The kind mask of a mask byte; its unused bits are ignored (12.2, 12). -/
def maskOf (b : Byte) : KindMask :=
  { trigger := b.getLsbD 0, scene := b.getLsbD 1, bay := b.getLsbD 2, pace := b.getLsbD 3, check := b.getLsbD 4 }

end Sys2Proof.Machine
end

