-- ==== Sys2Proof/Machine/Loads.lean ====
section
/-! DEFINITION. LOAD: the judgement of a whole LOAD (R13), the writing of its entries one after another (R14), and each
table's own tests and effects (R15, R23, R24, R38, R56, R57, R61, R83, R91, R92, R105, R129, R150, R169, R170). -/

namespace Sys2Proof.Machine

/-- What an executed command answers: a status and its detail (R11). -/
structure Reply where
  status : Status
  detail : Detail := .none
deriving DecidableEq, Repr

/-- The OK answer without a detail. -/
def Reply.ok : Reply := { status := .ok }
/-- An answer of a failed test. -/
def Reply.bad (s : Status) : Reply := { status := s }

/-! ## The judgement of a LOAD and the writing of its entries -/

/-- The entries of a LOAD, each of a fixed size; none when a field cannot represent its value (R13). -/
def parseEntries {α : Type} (parse : List Byte → Option α) (size : Nat) : Nat → List Byte → Option (List α)
  | 0, _ => some []
  | n + 1, bytes =>
    match parse (bytes.take size), parseEntries parse size n (bytes.drop size) with
    | some a, some l => some (a :: l)
    | _, _ => none

/-- A LOAD under way: the state, the first skipped entry with its reason, and how many were skipped (R14). -/
structure LoadRun where
  s : State
  first : Option (Nat × SkipReason) := none
  skipped : Nat := 0

/-- What a table does with one entry: the reason to skip it, or the state that has it written (R14). -/
abbrev Put (n : Nat) (α : Type) := Fin n → α → State → Except SkipReason State

/-- Write one entry, or skip it (R14). -/
def putEntry {α : Type} {n : Nat} (put : Put n α) (k : Fin n) (a : α) (r : LoadRun) : LoadRun :=
  match put k a r.s with
  | .ok t => { r with s := t }
  | .error x => { r with first := r.first.or (some (k.val, x)), skipped := r.skipped + 1 }

/-- Write the entries in ascending index order (R14). -/
def putEntries {α : Type} {n : Nat} (put : Put n α) : Nat → List α → LoadRun → LoadRun
  | _, [], r => r
  | k, a :: rest, r =>
    match index? n k with
    | some i => putEntries put (k + 1) rest (putEntry put i a r)
    | none => r

/-- The answer of a LOAD that passed R13 (R14). -/
def LoadRun.reply (r : LoadRun) : Reply :=
  match r.first with
  | none => .ok
  | some (k, x) => { status := .inUse, detail := .skipped k r.skipped x }

/-- A LOAD of a table of `n` entries of `size` bytes (R13, R14). -/
def loadTable {α : Type} {n : Nat} (size : Nat) (parse : List Byte → Option α) (put : Put n α) (ops : List Byte)
    (s : State) : State × Reply :=
  match parseHeader ops with
  | none => (s, .bad .badFrame)
  | some h =>
    if h.rest.length = h.count * size then
      match parseEntries parse size h.count h.rest with
      | none => (s, .bad .badFrame)
      | some l =>
        if n < h.first + h.count then (s, .bad .badIndex)
        else
          let r := putEntries put h.first l { s := s }
          (r.s, r.reply)
    else (s, .bad .badFrame)

/-- A LOAD that names no loadable table; one too short for its header is BAD_FRAME first (R11, R13, log entry 16). -/
def loadUnknown (ops : List Byte) : Reply :=
  match parseHeader ops with
  | none => .bad .badFrame
  | some _ => .bad .badTable

/-! ## Trunk, lines and levels -/

/-- PARAMS (R14, R15). -/
def putParams : Put 1 Params := fun _ p s => .ok { s with params := p }

/-- A watch entry's record for a universe: kept when it is the one held, else begun anew (R57). -/
def Watch.rewrite (w : Watch) (u : Option UniverseIx) : Watch := if w.uni = u then w else { uni := u }

/-- WATCH: a universe that another entry watches is skipped (R56, R57). -/
def putWatch : Put 8 (Option UniverseIx) := fun w u s =>
  if u.isSome = true ∧ (List.finRange 8).any (fun x => x != w && (s.watch[x]).uni == u) = true then .error .badValue
  else .ok (s.modWatch w (fun r => r.rewrite u))

/-- The group that holds a slot, if any (R83). -/
def groupOf (s : State) (m : LineIx × SlotIx) : Option GroupIx :=
  (List.finRange 64).find? (fun g => (s.groups[g]).members.contains m)

/-- SLOT of a line (R23). -/
def putSlot (l : LineIx) : Put 48 SlotRec := fun k r s =>
  let write : Except SkipReason State := .ok (s.modLine l (fun e => { e with loaded := e.loaded.set k r }))
  match groupOf s (l, k) with
  | some g =>
    if (s.groups[g]).owner.isSome then .error .inUse else if r.kind ≠ .level then .error .badValue else write
  | none => write

/-- LINE (R24). -/
def putLine : Put 6 LineParams := fun l p s => .ok (s.modLine l (fun e => { e with loadedParams := p }))

/-- CURVE: entry 0 is fixed (R61). -/
def putCurve : Put 8 Curve := fun k c s =>
  if k = 0 then .error .badValue else .ok { s with curves := s.curves.set k c }

/-- Whether a list names something twice. -/
def hasTwice {α : Type} [BEq α] : List α → Bool
  | [] => false
  | a :: l => l.contains a || hasTwice l

/-- GROUP (R83). -/
def putGroup : Put 64 (List (LineIx × SlotIx)) := fun g ms s =>
  if (s.groups[g]).owner.isSome then .error .inUse
  else if hasTwice ms || ms.any (fun m =>
      (List.finRange 64).any (fun h => h != g && (s.groups[h]).members.contains m) ||
        (s.loadedSlot m.1 m.2).kind != .level) then .error .badValue
  else .ok (s.modGroup g (fun r => { r with members := ms }))

/-! ## Bays and triggers -/

/-- A bay record with its loaded fields written (R38). -/
def Bay.load (r : Bay) (b : BayLoad) : Bay :=
  { r with
    lingerTime := b.lingerTime, holdReleaseTime := b.holdReleaseTime, attractMaster := b.attractMaster,
    liveMaster := b.liveMaster, audioMaster := b.audioMaster, workFloor := b.workFloor,
    attractScene := b.attractScene }

/-- BAY (R38). -/
def putBay : Put 16 BayLoad := fun b x s => .ok (s.modBay b (fun r => r.load x))

/-- Whether two used trigger entries have one key (R91). -/
def TrigEntry.sameKey (a b : TrigEntry) : Bool := a.line == b.line && a.slot == b.slot && a.bit == b.bit

/-- The INTRUSION entries of a bay other than one entry (R91). -/
def otherIntrusions (s : State) (t : TrigIx) (b : BayIx) : Nat :=
  ((List.finRange 128).filter (fun x => x != t && (s.triggers[x]).action.intrusionBay == some b)).length

/-- TRIGGER (R91, R92). -/
def putTrigger : Put 128 TrigEntry := fun t r s =>
  let taken := r.action.kind != .none && (List.finRange 128).any (fun x =>
    x != t && (s.triggers[x]).action.kind != .none && (s.triggers[x]).sameKey r)
  let full := match r.action.intrusionBay with | some b => decide (16 ≤ otherIntrusions s t b) | none => false
  if taken || full then .error .badValue else .ok (writeTrigger t r s)

/-! ## Scenes and cues -/

/-- SCENE: the ready time and the cooling flag are kept (R105). -/
def putScene : Put 96 Scene := fun c r s =>
  if sceneInUse s c then .error .inUse
  else if hasTwice r.groups || hasTwice r.zones || hasTwice r.axes then .error .badValue
  else .ok (s.modScene c (fun old => { r with ready := old.ready, cooling := old.cooling }))

/-- CUE (R129). -/
def putCue : Put 2048 CueRec := fun k r s => .ok { s with cues := s.cues.set k r }

/-! ## Zones -/

/-- A speaker zone with its loaded fields written (R150). -/
def Zone.load (r : Zone) (z : ZoneLoad) : Zone :=
  { r with
    bay := z.bay, line := z.line, node := z.node, bedSlot := z.bedSlot, duckLevel := z.duckLevel,
    duckTime := z.duckTime, restoreTime := z.restoreTime, pace := z.pace, limit := z.limit,
    pauseLevel := z.pauseLevel, resumeLevel := z.resumeLevel, ambientEnable := z.ambientEnable }

/-- A fade start request on a slot that may be none (R150). -/
def fadeSlot (m : Option (LineIx × SlotIx)) (t : Target) (time : Nat) (s : State) : State :=
  match m with
  | some (l, k) => fadeStart l k t time s
  | none => s

/-- The fades of a bed gain slot changed while voice-active is set: the old one toward BASE, the new one ducked
(R150). -/
def moveBed (old : Option (LineIx × SlotIx)) (z : ZoneLoad) (s : State) : State :=
  fadeSlot z.bedSlot (.fixed z.duckLevel) z.duckTime (fadeSlot old .base z.restoreTime s)

/-- A written zone entry's further effects: the entry to DARK of its new bay, and its bed moved; when a write has both
their order is free (R150, log entry 17). -/
def writeZone (z : ZoneIx) (x : ZoneLoad) (s : State) : State :=
  let old := s.zones[z]
  let goesDark := s.bayState old.bay != .dark && s.bayState x.bay == .dark
  let movesBed := old.voiceActive && old.bedSlot != x.bedSlot
  let t := s.modZone z (fun r => r.load x)
  match goesDark, movesBed with
  | true, true => eitherOrder (zoneToDark z) (moveBed old.bedSlot x) t
  | true, false => zoneToDark z t
  | false, true => moveBed old.bedSlot x t
  | false, false => t

/-- ZONE (R150). -/
def putZone : Put 24 ZoneLoad := fun z x s =>
  if (s.zones[z]).owner.isSome then .error .inUse
  else if x.bedSlot.any (fun m => (s.loadedSlot m.1 m.2).kind != .gain) then .error .badValue
  else .ok (writeZone z x s)

/-! ## Axes -/

/-- An axis with its loaded fields written: the buckets clipped, and a change of its slots making an IDLE axis UNSYNCED
(R170). -/
def Axis.load (r : Axis) (x : AxisLoad) : Axis :=
  let moved := r.setpoint != x.setpoint || r.feedback != x.feedback
  let unsync := moved && r.state == .idle
  { r with
    bay := x.bay, setpoint := x.setpoint, feedback := x.feedback, kl := x.kl, sl := x.sl, su := x.su, ku := x.ku,
    maxSpeed := x.maxSpeed, slowSpeed := x.slowSpeed, defaultSpeed := x.defaultSpeed, tolerance := x.tolerance,
    faultCount := x.faultCount, cbs := x.cbs, ebs := x.ebs, rate := x.rate, holdBay := x.holdBay
    c := min r.c x.cbs
    e := min r.e x.ebs
    state := if unsync then .unsynced else r.state
    following := if unsync then 0 else r.following }

/-- Whether an AXIS entry's slots fit the loaded slot tables (R169). -/
def axisSlotsFit (s : State) (a : AxisIx) (x : AxisLoad) : Bool :=
  let sp := s.loadedSlot x.setpoint.1 x.setpoint.2
  (sp.kind == .axis && sp.axis == a) &&
    x.feedback.all (fun m =>
      let fb := s.loadedSlot m.1 m.2
      fb.kind == .reply && fb.replyKind == .position && fb.axis == a)

/-- AXIS (R169, R170). -/
def putAxis : Put 24 AxisLoad := fun a x s =>
  if (s.axes[a]).owner.isSome then .error .inUse
  else if axisSlotsFit s a x then .ok (s.modAxis a (fun r => r.load x)) else .error .badValue

end Sys2Proof.Machine
end

