-- ==== Sys2Proof/Machine/Reads.lean ====
section
/-! DEFINITION. READ: the entry of every table and record as READ returns it (R16, R22, R24, R39, R60, R61, R73, R76,
R84, R92, R105, R106, R115, R127, R129, R151, R170, R194, layout 12.3, log entries 7 to 9), and the judgement of a READ
(R16). A READ changes no state. -/

namespace Sys2Proof.Machine

/-! ## Loaded entries, in the order of 12.3 -/

/-- A line and a slot that may be none (12.3). -/
def lineSlotBytes : Option (LineIx × SlotIx) → List Byte
  | some (l, k) => [byte l.val, byte k.val]
  | none => [0xFF, 0]

/-- A list brought to a fixed length with a filler. -/
def padTo (n : Nat) (filler : Byte) (l : List Byte) : List Byte := l.take n ++ List.replicate (n - l.length) filler

/-- PARAMS (12.3). -/
def Params.bytes (p : Params) : List Byte :=
  toBytes2 p.throttle ++ toBytes2 p.stale ++ toBytes2 p.ambientReserve ++ toBytes2 p.sceneReserve

/-- A universe that may be none. -/
def uniBytes (u : Option UniverseIx) : List Byte := optBytes2 (u.map (·.val))

/-- Slot kind codes (2.3). -/
def SlotKind.code : SlotKind → Byte | .off => 0 | .level => 1 | .gain => 2 | .axis => 3 | .reply => 4
/-- Merge codes (2.3). -/
def Merge.code : Merge → Byte | .take => 0 | .highest => 1

/-- SLOT (12.3). -/
def SlotRec.bytes (r : SlotRec) : List Byte :=
  [r.kind.code, byte r.node.val, byte r.bay.val] ++
    (match r.patch with | some (w, c) => [byte w.val, byte c.val] | none => [0xFF, 0]) ++
    [r.merge.code, byte r.curve.val,
      flag r.workLight ||| (flag r.reportUnmatched <<< 1) ||| (flag (r.replyKind == .position) <<< 2),
      byte r.axis.val] ++ toBytes2 r.ceiling

/-- LINE (12.3). -/
def LineParams.bytes (p : LineParams) : List Byte :=
  toBytes2 p.interval ++ [byte p.allowance] ++ toBytes2 (p.mask.toNat / 4294967296) ++ numBytes4 p.mask.toNat

/-- CURVE (12.3). -/
def Curve.bytes (c : Curve) : List Byte := c.toList.flatMap toBytes2

/-- The members of a GROUP entry; bytes beyond the count are 0 (12.3, log entry 7). -/
def memberBytes (ms : List (LineIx × SlotIx)) : List Byte :=
  byte ms.length :: padTo 32 0 (ms.flatMap (fun m => [byte m.1.val, byte m.2.val]))

/-- BAY (12.3). -/
def Bay.bytes (r : Bay) : List Byte :=
  numBytes4 r.lingerTime ++ toBytes2 r.holdReleaseTime ++ [byte r.attractMaster, byte r.liveMaster, byte r.audioMaster] ++
    toBytes2 r.workFloor ++ [optByte r.attractScene]

/-- The operand byte of a trigger action (R91). -/
def TrigAction.operand : TrigAction → Byte
  | .none b | .cue b => b
  | .start c | .stop c => byte c.val
  | .enter b | .leave b | .intrusion b => byte b.val

/-- TRIGGER (12.3). -/
def TrigEntry.bytes (r : TrigEntry) : List Byte :=
  [r.action.kind.code, byte r.line.val, byte r.slot.val, byte r.bit.val, r.edge.code, r.action.operand,
    byte r.allowance, flag r.report]

/-- A scene's flags as a byte (7.1). -/
def SceneFlags.byte (f : SceneFlags) : Byte :=
  flag f.attract ||| (flag f.live <<< 1) ||| (flag f.safety <<< 2) ||| (flag f.restart <<< 3) |||
    (flag f.holdAbort <<< 4) ||| (flag f.report <<< 5)

/-- A claim list: its count and its indexes; bytes beyond the count are 0 (12.3, log entry 7). -/
def claimBytes {n : Nat} (size : Nat) (l : List (Fin n)) : List Byte :=
  byte l.length :: padTo size 0 (l.map (fun k => byte k.val))

/-- SCENE (12.3). -/
def Scene.bytes (c : Scene) : List Byte :=
  [byte c.bay.val, byte c.priority.val, c.flags.byte] ++ numBytes4 c.release ++ numBytes4 c.cooldown ++
    numBytes4 c.waitLimit ++ toBytes2 c.first.val ++ claimBytes 8 c.groups ++ claimBytes 2 c.zones ++ claimBytes 4 c.axes

/-- Timeout action codes (12.3). -/
def TimeoutAction.code : TimeoutAction → Byte | .next => 0 | .endIt => 1

/-- A cue's kind byte and its operand bytes; unused bytes are 0 (12.3, log entry 7). -/
def CueKind.bytes : CueKind → List Byte
  | .endScene => padTo 8 0 [0]
  | .light g base level fade => [1, byte g.val, flag base] ++ toBytes2 level ++ toBytes3 fade
  | .voice z clip => padTo 8 0 ([2, byte z.val] ++ toBytes2 clip)
  | .move a target speed => padTo 8 0 ([3, byte a.val] ++ toBytes2 target ++ toBytes2 speed)
  | .waitTrigger e t a => padTo 8 0 ([4, byte e.val] ++ toBytes2 t ++ [a.code])
  | .waitMotion x t a => padTo 8 0 ([5, byte x.val] ++ toBytes2 t ++ [a.code])
  | .waitClip z t a => padTo 8 0 ([6, byte z.val] ++ toBytes2 t ++ [a.code])
  | .jump t n => padTo 8 0 ([7] ++ toBytes2 t ++ [byte n])
  | .unknown code ops => padTo 8 0 (code :: ops)

/-- CUE (12.3). -/
def CueRec.bytes (c : CueRec) : List Byte := toBytes2 c.delay ++ c.kind.bytes

/-- ZONE (12.3). -/
def Zone.loadedBytes (z : Zone) : List Byte :=
  [byte z.bay.val, byte z.line.val, byte z.node.val] ++ lineSlotBytes z.bedSlot ++ toBytes2 z.duckLevel ++
    numBytes4 z.duckTime ++ numBytes4 z.restoreTime ++ toBytes2 z.pace ++ toBytes2 z.limit ++ toBytes2 z.pauseLevel ++
    toBytes2 z.resumeLevel ++ [flag z.ambientEnable]

/-- AXIS (12.3). -/
def Axis.loadedBytes (a : Axis) : List Byte :=
  [byte a.bay.val, byte a.setpoint.1.val, byte a.setpoint.2.val] ++ lineSlotBytes a.feedback ++ toBytes2 a.kl ++
    toBytes2 a.sl ++ toBytes2 a.su ++ toBytes2 a.ku ++ toBytes2 a.maxSpeed ++ toBytes2 a.slowSpeed ++
    toBytes2 a.defaultSpeed ++ toBytes2 a.tolerance ++ [byte a.faultCount] ++ toBytes2 a.cbs ++ toBytes2 a.ebs ++
    toBytes2 a.rate ++ [flag a.holdBay]

/-! ## Runtime fields and records -/

/-- WATCH: 269 bytes (R60). -/
def readWatch (s : State) (w : WatchIx) : List Byte :=
  let r := s.watch[w]
  uniBytes r.uni ++ [flag r.received] ++ toBytes4 r.updated ++ [flag r.stale] ++ optTime r.deadline ++ r.image.toList

/-- Fade state codes (R76). -/
def FadeState.code : FadeState → Byte | .atBase => 0 | .fading => 1 | .holding => 2 | .frozen => 3

/-- A fade target: its mode, coded as a LIGHT cue's, and its level, 0 for BASE (R76, log entry 8). -/
def Target.bytes : Target → List Byte
  | .fixed n => 0 :: toBytes2 n
  | .base => [1, 0, 0]

/-- A fade record (R76). -/
def FadeRec.bytes (f : FadeRec) : List Byte :=
  [f.state.code] ++ toBytes2 f.start ++ f.target.bytes ++ toBytes4 f.t0 ++ toBytes3 f.duration ++ toBytes3 f.remaining ++
    optTime f.deadline

/-- SLOT: 34 bytes (R22, R73, R76). -/
def readSlot (l : LineIx) (s : State) (k : SlotIx) : List Byte :=
  (s.loadedSlot l k).bytes ++ optBytes2 (s.parks[l])[k] ++ (s.fade l k).bytes

/-- Presence codes (R31). -/
def Presence.code : Presence → Byte | .unknown => 0 | .present => 1 | .absent => 2

/-- LINE: 50 bytes (R24). -/
def readLine (s : State) (l : LineIx) : List Byte :=
  let e := s.lines[l]
  e.loadedParams.bytes ++ [flag e.running, flag e.stopPending] ++ optTime e.nextStart ++
    e.nodes.toList.flatMap (fun n => [n.presence.code, byte n.misses]) ++ toBytes2 e.replyErrors

/-- GROUP: 34 bytes (R84). -/
def readGroup (s : State) (g : GroupIx) : List Byte :=
  memberBytes (s.groups[g]).members ++ [optByte (s.groups[g]).owner]

/-- TRIGGER: 12 bytes; the notified level is FFh for an entry that is not INTRUSION (R92, log entry 8). -/
def readTrigger (s : State) (t : TrigIx) : List Byte :=
  let r := s.triggers[t]
  r.bytes ++ [byte r.credit] ++ toBytes2 r.dropped ++
    [match r.action.intrusionBay with | some _ => flag (!r.active) | none => 0xFF]

/-- The place of a scene's entry on the wait list (R105). -/
def waitPosition (s : State) (c : SceneIx) : Byte :=
  match s.waitList.findIdx? (fun e => e.scene == c) with
  | some n => byte n
  | none => 0xFF

/-- SCENE: 41 bytes (R105). -/
def readScene (s : State) (c : SceneIx) : List Byte :=
  let r := s.scenes[c]
  r.bytes ++ toBytes4 r.ready ++ [flag r.cooling, optByte (busyOf s c), waitPosition s c]

/-- Clip state codes (9.2). -/
def ClipState.code : ClipState → Byte | .none => 0 | .expecting => 1 | .playing => 2 | .done => 3

/-- A queue's counts and its head's fields, none for an empty queue (R151). -/
def queueBytes (q : List Chunk) : List Byte :=
  toBytes2 q.length ++ toBytes2 (blocksOf q) ++
    (match q with
      | c :: _ => toBytes2 c.clip ++ toBytes2 c.seq ++ optTime (some c.arrival)
      | [] => [0xFF, 0xFF, 0xFF, 0xFF] ++ optTime none)

/-- ZONE: 83 bytes (R151). -/
def readZone (s : State) (z : ZoneIx) : List Byte :=
  let r := s.zones[z]
  r.loadedBytes ++ [optByte r.owner] ++ toBytes2 r.clip ++ [r.clipState.code] ++ toBytes2 r.usage ++
    [flag r.paused, flag r.voiceActive] ++ optTime r.voiceNext ++ optTime r.bedNext ++ toBytes2 r.drops ++
    queueBytes r.announceQ ++ queueBytes r.sceneQ ++ queueBytes r.ambientQ

/-- Axis state codes (10.2). -/
def AxisState.code : AxisState → Byte | .unsynced => 0 | .idle => 1 | .moving => 2 | .stopped => 3
/-- Colour codes (R176). -/
def Colour.code : Colour → Byte | .green => 0 | .yellow => 1 | .red => 2

/-- AXIS: 72 bytes; the buckets as last refilled (R170). -/
def readAxis (s : State) (a : AxisIx) : List Byte :=
  let r := s.axes[a]
  r.loadedBytes ++ [r.state.code] ++ toBytes2 (r.position s.now) ++ optBytes2 r.lastSent ++ toBytes2 r.moveFrom ++
    toBytes2 r.moveTo ++ toBytes2 r.speed ++ toBytes4 r.moveStart ++ numBytes4 r.duration ++ optTime r.deadline ++
    toBytes2 r.c ++ toBytes2 r.e ++ toBytes2 r.residue ++ toBytes4 r.refilled ++ toBytes4 r.refillDeadline ++
    [byte r.following] ++ toBytes2 r.clamps ++
    [match r.colour with | some c => c.code | none => 0xFF, optByte r.owner]

/-- Instance state codes (R106). -/
def InstState.code : InstState → Byte | .free => 0 | .running => 1 | .suspended => 2

/-- The object of a wait (R127). -/
def WaitOn.byte : WaitOn → Byte
  | .trigger e => BitVec.ofNat 8 e.val
  | .motion a => BitVec.ofNat 8 a.val
  | .clip z => BitVec.ofNat 8 z.val

/-- A wait: its kind, object, deadline and timeout action (R127, log entry 8). -/
def waitBytes : Option Wait → List Byte
  | some w => [w.on.kind.code, w.on.byte] ++ optTime w.deadline ++ [w.action.code]
  | none => [0xFF, 0] ++ optTime none ++ [0]

/-- INSTANCE: 29 bytes (R106, R127). -/
def readInst (s : State) (i : InstIx) : List Byte :=
  let n := s.insts[i]
  [n.state.code, byte n.scene.val, n.origin.code] ++ toBytes4 n.start ++ toBytes2 n.cue.val ++ optTime n.due ++
    waitBytes n.wait ++ optBytes2 (n.loopOwner.map (·.val)) ++ [byte n.loopCount] ++ optBytes2 n.remDue ++
    optBytes2 n.remWait

/-- WAITLIST: 11 bytes, FFh and zeros for an empty entry (R115, 12.3). -/
def readWait (s : State) (k : Fin 8) : List Byte :=
  match s.waitList[k.val]? with
  | some e => [byte e.scene.val, e.origin.code, byte e.priority.val] ++ toBytes4 e.enqueued ++ toBytes4 e.expiry
  | none => padTo 11 0 [0xFF]

/-- The context: class, severity, the object in seven bytes, part time, show time and instance; FFh and zeros when empty
(R194, log entry 8). -/
def contextBytes : Option Check → List Byte
  | some c =>
    [c.object.cls.code, c.severity.code] ++ padTo 7 0 c.object.bytes ++ toBytes4 c.time ++ toBytes4 c.showTime ++
      [optByte c.inst]
  | none => padTo 18 0 [0xFF]

/-- CHECKS: 47 bytes (R194). -/
def readChecks (s : State) (_ : Fin 1) : List Byte :=
  let u := s.checks
  let t := s.trunk
  u.classes.toList.flatMap (fun r => [flag r.seen, byte r.count]) ++ contextBytes u.context ++
    [u.mode.code, u.mask.byte, byte u.lost, t.linkA.code, t.linkB.code] ++ toBytes2 t.linkErrors ++
    toBytes2 t.downDrops ++ toBytes2 t.returnDrops ++ toBytes2 t.busyDiscards

/-- POOL: 52 bytes (R151). -/
def readPool (s : State) (_ : Fin 1) : List Byte :=
  toBytes2 s.pool.free ++ s.zones.toList.flatMap (fun z => toBytes2 z.usage) ++ toBytes2 s.pool.unknownZone

/-- BAYSTATE: 40 bytes; places of the set beyond its count hold FFh (R39, log entry 8). -/
def readBayState (s : State) (b : BayIx) : List Byte :=
  let r := s.bays[b]
  [r.state.code] ++ toBytes4 r.entryTime ++ [byte r.occupancy, byte r.intrusions.length] ++
    padTo 16 0xFF (r.intrusions.map (fun e => byte e.val)) ++ [r.causes.byte] ++ optTime r.linger ++
    optTime r.holdRelease ++ toBytes2 r.underflow ++ toBytes2 r.overflow ++ toBytes2 r.ignored

/-! ## The judgement of a READ -/

/-- A table or record READ may name: its number of entries, the size of one, and its bytes (R16). -/
structure Readable where
  entries : Nat
  size : Nat
  bytes : State → Nat → List Byte

/-- A table with one index type. -/
def readable {n : Nat} (size : Nat) (f : State → Fin n → List Byte) : Readable :=
  { entries := n, size := size, bytes := fun s k => match index? n k with | some i => f s i | none => [] }

/-- The tables and records by their codes; the line byte is examined for SLOT only (R16, 12.2, 12.3). -/
def readableOf (table line : Byte) : Option Readable :=
  match table.toNat with
  | 0x00 => some (readable 8 (fun s (_ : Fin 1) => s.params.bytes))
  | 0x01 => some (readable 269 readWatch)
  | 0x02 => (index? 6 line.toNat).map (fun l => readable 34 (readSlot l))
  | 0x03 => some (readable 50 readLine)
  | 0x04 => some (readable 34 (fun s (k : CurveIx) => (s.curves[k]).bytes))
  | 0x05 => some (readable 34 readGroup)
  | 0x06 => some (readable 12 (fun s (b : BayIx) => (s.bays[b]).bytes))
  | 0x07 => some (readable 12 readTrigger)
  | 0x08 => some (readable 41 readScene)
  | 0x09 => some (readable 10 (fun s (k : CueIx) => (s.cues[k]).bytes))
  | 0x0A => some (readable 83 readZone)
  | 0x0B => some (readable 72 readAxis)
  | 0x10 => some (readable 29 readInst)
  | 0x11 => some (readable 11 readWait)
  | 0x12 => some (readable 47 readChecks)
  | 0x13 => some (readable 52 readPool)
  | 0x14 => some (readable 40 readBayState)
  | _ => none

/-- The entry bytes that fit in one ANSWER after its three bytes and the READ's six (R16, R196, 12.4). -/
def answerRoom : Nat := 503

/-- The entries of a READ, in index order. -/
def entryBytes (t : Readable) (s : State) (first count : Nat) : List Byte :=
  (List.range count).flatMap (fun k => t.bytes s (first + k))

/-- A READ: its operands, the table, the fit and the index are tested in this order (R11, R16). -/
def readReply (ops : List Byte) (s : State) : Reply :=
  match parseHeader ops with
  | none => .bad .badFrame
  | some h =>
    if h.rest = [] then
      match readableOf h.table h.line with
      | none => .bad .badTable
      | some t =>
        if answerRoom < t.size * h.count then .bad .badFrame
        else if t.entries < h.first + h.count then .bad .badIndex
        else
          { status := .ok, detail := .read h.table h.line h.first h.count (entryBytes t s h.first h.count) }
    else .bad .badFrame

end Sys2Proof.Machine
end

