-- ==== Sys2Proof/Machine/Resets.lean ====
section
/-! DEFINITION. The resets: the cold reset (R17) and the warm reset of every block (R18, R37, R55, R75, R90, R104, R126,
R148, R168, R186, R195); and CLEAR CHECKS, which clears the counts of every block (R193). -/

namespace Sys2Proof.Machine

/-- A cold reset with the address lines' value. The queue of commands to come and the count of free choices are the
model's own and stay (R17, log entry 24). -/
def coldReset (strap : StationIx) (s : State) : State :=
  { State.cold strap with pending := s.pending, choices := s.choices }

/-- A Line Engine's warm reset: the block window of a frame in progress ends (R37). -/
def LineEngine.warm (e : LineEngine) : LineEngine := { e with block := [] }

/-- A bay's warm reset (R55). -/
def Bay.warm (r : Bay) (now : Time) : Bay :=
  { r with
    state := .dark
    entryTime := now
    causes := { sensor := !r.intrusions.isEmpty, command := false, fault := false }
    linger := none
    holdRelease := none }

/-- A scene's warm reset: cooling clear, the ready time kept (R126). -/
def Scene.warm (c : Scene) : Scene := { c with cooling := false }

/-- An instance's warm reset: FREE, its cue index kept (R126, R148). -/
def Inst.warm (n : Inst) : Inst := { n.clearCues with state := .free }

/-- A speaker zone's warm reset (R168). -/
def Zone.warm (z : Zone) : Zone :=
  { z with
    owner := none
    clipState := .none
    usage := 0
    paused := false
    voiceActive := false
    voiceNext := none
    bedNext := none
    announceQ := []
    sceneQ := []
    ambientQ := [] }

/-- An axis's warm reset: frozen where it stands without notice, and without an owner (R186). -/
def Axis.warm (a : Axis) (now : Time) : Axis :=
  { (if a.state = .moving then a.halt now else a) with owner := none }

/-- Every block's warm reset, before the STARTED report (R18). -/
def warmBlocks (s : State) : State :=
  let now := s.now
  let s :=
    { s with
      trunk := { s.trunk with lastServed := .relay }
      lines := mapAll LineEngine.warm s.lines
      bays := mapAll (fun b => b.warm now) s.bays
      fades := mapAll (mapAll FadeRec.toBase) s.fades
      groups := mapAll (fun g => { g with owner := none }) s.groups
      scenes := mapAll Scene.warm s.scenes
      insts := mapAll Inst.warm s.insts
      waitList := []
      zones := mapAll Zone.warm s.zones
      pool := { s.pool with free := Config.poolBlocks, lastServed := Vector.replicate 6 none }
      axes := mapAll (fun a => a.warm now) s.axes }
  rearmThrottle s

/-- Offer the STARTED report of a warm reset (R18, R191). -/
def warmStarted (s : State) : State :=
  offerReport (.started false s.now s.checks.mode s.checks.mask (s.trunk.station == 63)) s

/-- The warm reset of the part (R18). -/
def warmReset (s : State) : State := warmStarted (warmBlocks s)

/-- CLEAR CHECKS: the capture and the diagnostic counts of every block (R193). -/
def clearChecks (s : State) : State :=
  { s with
    checks := { s.checks with classes := Vector.replicate 8 {}, context := none }
    trunk := { s.trunk with linkErrors := 0, downDrops := 0, returnDrops := 0, busyDiscards := 0 }
    lines := mapAll (fun e => { e with replyErrors := 0 }) s.lines
    bays := mapAll (fun b => { b with underflow := 0, overflow := 0, ignored := 0 }) s.bays
    triggers := mapAll (fun t => { t with dropped := 0 }) s.triggers
    zones := mapAll (fun z => { z with drops := 0 }) s.zones
    pool := { s.pool with unknownZone := 0 }
    axes := mapAll (fun a => { a with clamps := 0 }) s.axes }

end Sys2Proof.Machine
end

