-- ==== Sys2Proof/Machine/Frames.lean ====
section
/-! DEFINITION. The rows of the Trunk Port and the cold reset: COLD_RESET (R17), LINK_UP and LINK_DOWN (R1), arriving
frames (R2 to R5, R8, R9, R58, R153), finished transmissions (R4, R6) and the waiting answer (R10). A row whose event
cannot come about in a state leaves the state as it is (log entry 4). -/

namespace Sys2Proof.Machine

/-- The outcome of every row: the part goes on. -/
abbrev Result := Host.Outcome State Fault Refusal

/-! ## Links -/

/-- The link state of a port (R1). -/
def Trunk.link (t : Trunk) (p : Port) : Link := match p with | .a => t.linkA | .b => t.linkB

/-- A port comes UP; sending resumes on port A (R1, R6). -/
def linkUp (p : Port) (s : State) : State :=
  match p with
  | .a => s.modTrunk (fun t => Trunk.arbitrate { t with linkA := .up })
  | .b => s.modTrunk (fun t => { t with linkB := .up })

/-- A port goes DOWN: the frame being sent is lost, and the B-out queue is emptied (R1). -/
def linkDown (p : Port) (s : State) : State :=
  match p with
  | .a => s.modTrunk (fun t => { t with linkA := .down, sendingA := none })
  | .b => s.modTrunk (fun t => { t with linkB := .down, bOut := [] })

/-! ## Arriving frames -/

/-- A malformed frame: the link error count and a LINK check (R2). -/
def malformed (p : Port) (s : State) : State :=
  raiseCheck (.port p) none (s.modTrunk (fun t => { t with linkErrors := satInc Config.countMax t.linkErrors }))

/-- A frame of a kind arriving on a port: a DOWN port receives none, a frame that fails R2 is malformed, and a good one
is acted on (R1, R2). -/
def arrives (p : Port) (kind : Byte) (f : Frame) (act : State → State) (s : State) : State :=
  match s.trunk.link p with
  | .down => s
  | .up => if f.good p = false then malformed p s else if f.kind = kind then act s else s

/-- Whether relaying a frame would overflow the B-out queue (R4). -/
def bOutFull (s : State) : Bool := s.trunk.linkB == .up && decide (Config.bOutMax ≤ s.trunk.bOut.length)

/-- Relay a frame and take it: neither waits for the other, and their order shows only when the relaying raises a check
(R3, R4, log entry 3). -/
def relayAndTake (f : Frame) (take : State → State) (s : State) : State :=
  if bOutFull s then eitherOrder (relayDown f) take s else take (relayDown f s)

/-- The watch entry that watches a universe (R58). -/
def watcherOf (s : State) (u : Nat) : Option WatchIx :=
  (List.finRange 8).find? (fun w => match (s.watch[w]).uni with | some x => x.val == u | none => false)

/-- A watch entry's capture of a LEVEL payload (R58). -/
def Watch.capture (w : Watch) (payload : List Byte) (now : Time) (stale : Nat) : Watch :=
  { w with
    image := tabulate 256 (fun c => payload.getD (2 + c.val) 0)
    received := true
    updated := now
    stale := false
    deadline := some (later now stale) }

/-- Take a LEVEL frame (R58). -/
def takeLevel (payload : List Byte) (s : State) : State :=
  match watcherOf s (be2 (payload.getD 0 0) (payload.getD 1 0)) with
  | some w => s.modWatch w (fun r => r.capture payload s.now s.params.stale)
  | none => s

/-- Take a CLOCK frame: the offset becomes the carried show time minus part time (R8). -/
def takeClock (payload : List Byte) (s : State) : State :=
  s.modTrunk (fun t => { t with offset := BitVec.ofNat 32 (num4 payload 0) - t.now })

/-- Take a COMMAND frame: queued, or answered BUSY, or its BUSY answer discarded and counted (R9). -/
def takeCommand (payload : List Byte) (s : State) : State :=
  let c : Command := { tag := payload.getD 0 0, code := payload.getD 1 0, ops := payload.drop 2 }
  if s.cmd.queue.length < Config.cmdMax then s.modCmd (fun u => { u with queue := u.queue ++ [c] })
  else if s.ownRoom then s.placeOwn (.answer { tag := c.tag, code := c.code, status := .busy, detail := .none })
  else s.modTrunk (fun t => { t with busyDiscards := satInc Config.countMax t.busyDiscards })

/-- A good BLOCK frame: taken at its station, relayed elsewhere (R3). -/
def blockArrives (f : Frame) (s : State) : State :=
  if f.dest = s.trunk.station then arriveChunk f.payload s else relayDown f s

/-- A good COMMAND frame: taken at its station, relayed for another, and both for a broadcast (R3). -/
def commandArrives (f : Frame) (s : State) : State :=
  if f.dest = 63 then relayAndTake f (takeCommand f.payload) s
  else if f.dest = s.trunk.station then takeCommand f.payload s
  else relayDown f s

/-- A good frame on port B: placed in the A-out relay queue, or dropped, counted and checked (R5, R6). -/
def returnArrives (f : Frame) (s : State) : State :=
  if s.trunk.relay.length < Config.relayMax then
    s.modTrunk (fun t => Trunk.arbitrate { t with relay := t.relay ++ [f] })
  else
    raiseCheck (.queue .relay) none
      (s.modTrunk (fun t => { t with returnDrops := satInc Config.countMax t.returnDrops }))

/-! ## Finished transmissions -/

/-- Port B has sent the head of its queue (R4). -/
def portBDone (s : State) : State := s.modTrunk (fun t => { t with bOut := t.bOut.tail })

/-- Port A has sent its frame, and the arbiter chooses the next (R6). -/
def portADone (s : State) : State :=
  if s.trunk.sendingA.isSome then s.modTrunk (fun t => Trunk.arbitrate { t with sendingA := none }) else s

/-- The waiting answer finds space: it is placed, and its command leaves the queue (R10). -/
def placeWaiting (s : State) : State :=
  match s.cmd.waiting with
  | some a =>
    if s.ownRoom then (s.placeOwn (.answer a)).modCmd (fun c => { queue := c.queue.tail, waiting := none }) else s
  | none => s

/-! ## The rows -/

/-- COLD_RESET (R17). -/
def execColdReset (strap : StationIx) (s : State) : Result := .next (coldReset strap s)

/-- LINK_UP (R1). -/
def execLinkUp (p : Port) (s : State) : Result :=
  .next (match s.trunk.link p with | .down => linkUp p s | .up => s)

/-- LINK_DOWN (R1). -/
def execLinkDown (p : Port) (s : State) : Result :=
  .next (match s.trunk.link p with | .up => linkDown p s | .down => s)

/-- LEVEL_FRAME (R58). -/
def execLevelFrame (f : Frame) (s : State) : Result :=
  .next (arrives .a kindLevel f (relayAndTake f (takeLevel f.payload)) s)

/-- CLOCK_FRAME (R8). -/
def execClockFrame (f : Frame) (s : State) : Result :=
  .next (arrives .a kindClock f (relayAndTake f (takeClock f.payload)) s)

/-- BLOCK_FRAME (R153). -/
def execBlockFrame (f : Frame) (s : State) : Result := .next (arrives .a kindBlock f (blockArrives f) s)

/-- COMMAND_FRAME (R9). -/
def execCommandFrame (f : Frame) (s : State) : Result := .next (arrives .a kindCommand f (commandArrives f) s)

/-- RETURN_FRAME (R5). -/
def execReturnFrame (f : Frame) (s : State) : Result := .next (arrives .b f.kind f (returnArrives f) s)

/-- MALFORMED_FRAME_RECEIVED (R2). -/
def execMalformedFrameReceived (p : Port) (f : Frame) (s : State) : Result :=
  .next (match s.trunk.link p with | .down => s | .up => if f.good p then s else malformed p s)

/-- PORT_B_TRANSMISSION_DONE (R4). -/
def execPortBTransmissionDone (s : State) : Result := .next (portBDone s)

/-- PORT_A_TRANSMISSION_DONE (R6). -/
def execPortATransmissionDone (s : State) : Result := .next (portADone s)

/-- WAITING_ANSWER_PLACED (R10). -/
def execWaitingAnswerPlaced (s : State) : Result := .next (placeWaiting s)

end Sys2Proof.Machine
end

