-- ==== Sys2Proof/Machine/Commands.lean ====
section
/-! DEFINITION. The rows that execute a show-controller command: the command at the head of the command queue runs in one
event, its effect applied and its answer offered (R9, R10, R11). A row whose command is not at the head, or whose head
waits with its answer, leaves the state as it is (log entry 4). -/

namespace Sys2Proof.Machine

/-! ## Execution -/

/-- Whether a command is the one that executes next: at the head, with no answer waiting (R9, R10). -/
def atHead (c : Command) (s : State) : Bool := s.cmd.waiting.isNone && s.cmd.queue.head? == some c

/-- Execute a command: its whole effect, then its answer (R10, R11). -/
def execute (c : Command) (run : State → State × Reply) (s : State) : State :=
  if atHead c s then
    let r := run s
    offerAnswer { tag := c.tag, code := c.code, status := r.2.status, detail := r.2.detail } r.1
  else s

/-- A row that executes a command of a code. -/
def commandRow (tag code : Byte) (ops : List Byte) (run : State → State × Reply) (s : State) : Result :=
  .next (execute { tag := tag, code := code, ops := ops } run s)

/-- A LOAD row: the LOAD's table byte names the row (12.3). -/
def loadRow (row : Instr) (tag : Byte) (ops : List Byte) (run : State → State × Reply) (s : State) : Result :=
  if loadInstr tag ops = row then commandRow tag 0x01 ops run s else .next s

/-- Answer without any effect. -/
def answer (r : Reply) (s : State) : State × Reply := (s, r)

/-- A command without operands (12.2). -/
def noOperand (ops : List Byte) (run : State → State × Reply) (s : State) : State × Reply :=
  match ops with
  | [] => run s
  | _ :: _ => answer (.bad .badFrame) s

/-- A command whose one operand byte is an index of its table (R11, 12.2). -/
def oneIndex (n : Nat) (ops : List Byte) (run : Fin n → State → State × Reply) (s : State) : State × Reply :=
  match ops with
  | [b] => match index? n b.toNat with | some k => run k s | none => answer (.bad .badIndex) s
  | _ => answer (.bad .badFrame) s

/-- Answer a bay command OK with the bay's state after it (3.5). -/
def bayReply (b : BayIx) (s : State) : State × Reply := (s, { status := .ok, detail := .bayState (s.bayState b) })

/-! ## What each command runs -/

/-- HOLD BAY, refused on a closed bay (R49). -/
def runHoldBay (b : BayIx) (s : State) : State × Reply :=
  if (s.bayState b).refusesHold then answer { status := .refused, detail := .refused .bayState } s
  else bayReply b (holdBay b s)

/-- PARK SLOT (R71). -/
def runParkSlot (ops : List Byte) (s : State) : State × Reply :=
  match ops with
  | [l, k, v1, v0] =>
    match index? 6 l.toNat, index? 48 k.toNat with
    | some l, some k => (s.setPark l k (some (be2 v1 v0)), .ok)
    | _, _ => answer (.bad .badIndex) s
  | _ => answer (.bad .badFrame) s

/-- UNPARK SLOT (R73). -/
def runUnparkSlot (ops : List Byte) (s : State) : State × Reply :=
  match ops with
  | [l, k] =>
    match index? 6 l.toNat, index? 48 k.toNat with
    | some l, some k => (s.setPark l k none, .ok)
    | _, _ => answer (.bad .badIndex) s
  | _ => answer (.bad .badFrame) s

/-- A bay record with one master written (R67). -/
def Bay.setMaster (r : Bay) (m : Master) (v : Nat) : Bay :=
  match m with
  | .attract => { r with attractMaster := v }
  | .live => { r with liveMaster := v }
  | .audio => { r with audioMaster := v }

/-- SET MASTER: what its fields cannot represent is judged before its bay (R11, R67). -/
def runSetMaster (ops : List Byte) (s : State) : State × Reply :=
  match ops with
  | [b, m, v1, v0] =>
    match masterOf m.toNat with
    | none => answer (.bad .badFrame) s
    | some m =>
      if 255 < be2 v1 v0 then answer (.bad .badFrame) s
      else
        match index? 16 b.toNat with
        | none => answer (.bad .badIndex) s
        | some b => (s.modBay b (fun r => r.setMaster m (be2 v1 v0)), .ok)
  | _ => answer (.bad .badFrame) s

/-- The answer of START SCENE for a request's outcome (R122). -/
def Outcome.reply : Outcome → Reply
  | .admitted i | .restarted i => { status := .ok, detail := .inst i }
  | .waiting => { status := .ok, detail := .waiting }
  | .refused r => { status := .refused, detail := .refused r }

/-- START SCENE: the request, and a re-scan after it (R117, R122). -/
def runStartScene (c : SceneIx) (s : State) : State × Reply :=
  let r := request c .command s
  (rescan r.1, r.2.reply)

/-- STOP SCENE (R123). -/
def runStopScene (c : SceneIx) (s : State) : State × Reply :=
  let r := stopRequest c s
  (r.1, { status := .ok, detail := .stopped r.2 })

/-- SET REPORTING (R192). -/
def runSetReporting (ops : List Byte) (s : State) : State × Reply :=
  match ops with
  | [m, k] =>
    match modeOf m.toNat with
    | some m => (s.modChecks (fun u => { u with mode := m, mask := maskOf k }), .ok)
    | none => answer (.bad .badFrame) s
  | _ => answer (.bad .badFrame) s

/-! ## The rows -/

/-- UNKNOWN_COMMAND: answered BAD_FRAME (R11). -/
def execUnknownCommand (tag code : Byte) (ops : List Byte) (s : State) : Result :=
  if commandInstr tag code ops = .unknownCommand tag code ops then
    commandRow tag code ops (answer (.bad .badFrame)) s
  else .next s

/-- LOAD_PARAMS (R14, R15). -/
def execLoadParams (tag : Byte) (ops : List Byte) (s : State) : Result :=
  loadRow (.loadParams tag ops) tag ops (loadTable 8 parseParams putParams ops) s

/-- LOAD_WATCH (R56, R57). -/
def execLoadWatch (tag : Byte) (ops : List Byte) (s : State) : Result :=
  loadRow (.loadWatch tag ops) tag ops (loadTable 2 parseWatch putWatch ops) s

/-- LOAD_SLOT (R22, R23); the row's line byte is at most 5. -/
def execLoadSlot (tag : Byte) (ops : List Byte) (s : State) : Result :=
  loadRow (.loadSlot tag ops) tag ops
    (match index? 6 (num1 ops 1) with
      | some l => loadTable 11 parseSlot (putSlot l) ops
      | none => answer (.bad .badTable)) s

/-- LOAD_LINE (R24). -/
def execLoadLine (tag : Byte) (ops : List Byte) (s : State) : Result :=
  loadRow (.loadLine tag ops) tag ops (loadTable 9 parseLine putLine ops) s

/-- LOAD_CURVE (R61). -/
def execLoadCurve (tag : Byte) (ops : List Byte) (s : State) : Result :=
  loadRow (.loadCurve tag ops) tag ops (loadTable 34 parseCurve putCurve ops) s

/-- LOAD_GROUP (R83). -/
def execLoadGroup (tag : Byte) (ops : List Byte) (s : State) : Result :=
  loadRow (.loadGroup tag ops) tag ops (loadTable 33 parseGroup putGroup ops) s

/-- LOAD_BAY (R38). -/
def execLoadBay (tag : Byte) (ops : List Byte) (s : State) : Result :=
  loadRow (.loadBay tag ops) tag ops (loadTable 12 parseBay putBay ops) s

/-- LOAD_TRIGGER (R91, R92). -/
def execLoadTrigger (tag : Byte) (ops : List Byte) (s : State) : Result :=
  loadRow (.loadTrigger tag ops) tag ops (loadTable 8 parseTrigger putTrigger ops) s

/-- LOAD_SCENE (R105). -/
def execLoadScene (tag : Byte) (ops : List Byte) (s : State) : Result :=
  loadRow (.loadScene tag ops) tag ops (loadTable 34 parseScene putScene ops) s

/-- LOAD_CUE (R129). -/
def execLoadCue (tag : Byte) (ops : List Byte) (s : State) : Result :=
  loadRow (.loadCue tag ops) tag ops (loadTable 10 parseCue putCue ops) s

/-- LOAD_ZONE (R150). -/
def execLoadZone (tag : Byte) (ops : List Byte) (s : State) : Result :=
  loadRow (.loadZone tag ops) tag ops (loadTable 24 parseZone putZone ops) s

/-- LOAD_AXIS (R169, R170). -/
def execLoadAxis (tag : Byte) (ops : List Byte) (s : State) : Result :=
  loadRow (.loadAxis tag ops) tag ops (loadTable 29 parseAxis putAxis ops) s

/-- LOAD_UNKNOWN_TABLE (R13). -/
def execLoadUnknownTable (tag : Byte) (ops : List Byte) (s : State) : Result :=
  loadRow (.loadUnknownTable tag ops) tag ops (answer (loadUnknown ops)) s

/-- READ (R16). -/
def execRead (tag : Byte) (ops : List Byte) (s : State) : Result :=
  commandRow tag 0x02 ops (fun t => (t, readReply ops t)) s

/-- RESET_PART (R18). -/
def execResetPart (tag : Byte) (ops : List Byte) (s : State) : Result :=
  commandRow tag 0x03 ops (noOperand ops (fun t => (warmReset t, .ok))) s

/-- LINE_ON (R20). -/
def execLineOn (tag : Byte) (ops : List Byte) (s : State) : Result :=
  commandRow tag 0x10 ops (oneIndex 6 ops (fun l t => (lineOn l t, .ok))) s

/-- LINE_OFF (R21). -/
def execLineOff (tag : Byte) (ops : List Byte) (s : State) : Result :=
  commandRow tag 0x11 ops (oneIndex 6 ops (fun l t => (lineOff l t, .ok))) s

/-- OPEN_BAY (R47). -/
def execOpenBay (tag : Byte) (ops : List Byte) (s : State) : Result :=
  commandRow tag 0x20 ops (oneIndex 16 ops (fun b t => bayReply b (openBay b t))) s

/-- CLOSE_BAY (R48). -/
def execCloseBay (tag : Byte) (ops : List Byte) (s : State) : Result :=
  commandRow tag 0x21 ops (oneIndex 16 ops (fun b t => bayReply b (closeBay b t))) s

/-- HOLD_BAY (R49). -/
def execHoldBay (tag : Byte) (ops : List Byte) (s : State) : Result :=
  commandRow tag 0x22 ops (oneIndex 16 ops runHoldBay) s

/-- RELEASE_BAY (R50). -/
def execReleaseBay (tag : Byte) (ops : List Byte) (s : State) : Result :=
  commandRow tag 0x23 ops (oneIndex 16 ops (fun b t => bayReply b (releaseBay b t))) s

/-- SERVICE_BAY (R51). -/
def execServiceBay (tag : Byte) (ops : List Byte) (s : State) : Result :=
  commandRow tag 0x24 ops (oneIndex 16 ops (fun b t => bayReply b (serviceBay b t))) s

/-- PARK_SLOT (R71). -/
def execParkSlot (tag : Byte) (ops : List Byte) (s : State) : Result := commandRow tag 0x30 ops (runParkSlot ops) s

/-- UNPARK_SLOT (R73). -/
def execUnparkSlot (tag : Byte) (ops : List Byte) (s : State) : Result :=
  commandRow tag 0x31 ops (runUnparkSlot ops) s

/-- SET_MASTER (R67). -/
def execSetMaster (tag : Byte) (ops : List Byte) (s : State) : Result := commandRow tag 0x32 ops (runSetMaster ops) s

/-- START_SCENE (R122). -/
def execStartScene (tag : Byte) (ops : List Byte) (s : State) : Result :=
  commandRow tag 0x40 ops (oneIndex 96 ops runStartScene) s

/-- STOP_SCENE (R123). -/
def execStopScene (tag : Byte) (ops : List Byte) (s : State) : Result :=
  commandRow tag 0x41 ops (oneIndex 96 ops runStopScene) s

/-- RESET_AXIS (R184). -/
def execResetAxis (tag : Byte) (ops : List Byte) (s : State) : Result :=
  commandRow tag 0x50 ops (oneIndex 24 ops (fun a t => (endRunOff (unsyncAxis a t), .ok))) s

/-- SET_REPORTING (R192). -/
def execSetReporting (tag : Byte) (ops : List Byte) (s : State) : Result :=
  commandRow tag 0x60 ops (runSetReporting ops) s

/-- CLEAR_CHECKS (R193). -/
def execClearChecks (tag : Byte) (ops : List Byte) (s : State) : Result :=
  commandRow tag 0x61 ops (noOperand ops (fun t => (clearChecks t, .ok))) s

end Sys2Proof.Machine
end

