-- ==== Sys2Proof/Machine/Events.lean ====
section
/-! DEFINITION. The rows of events: frame starts, reply windows and frame ends of the lines (R19, R29, R30), and every
expiry of a deadline (R8). An expiry that is not due, and a window that is not open, leave the state as it is (log
entry 4). The last section lists the events that are due, for the step of an idle part (log entries 1 and 2). -/

namespace Sys2Proof.Machine

/-! ## Acts of the expiries -/

/-- The expiry of a stale deadline (R59). -/
def staleExpires (w : WatchIx) (s : State) : State :=
  raiseCheck (.watch w (s.watch[w]).uni) none (s.modWatch w (fun r => { r with deadline := none, stale := true }))

/-- The wait entry of a scene whose expiry deadline is reached (R118). -/
def expiredEntry (s : State) (c : SceneIx) : Option WaitEntry :=
  s.waitList.find? (fun e => e.scene == c && reached s.now e.expiry)

/-- The held wait of an instance whose deadline is reached (R142). -/
def expiredWait (s : State) (i : InstIx) : Option Wait :=
  (s.insts[i]).wait.filter (fun w => expired s.now w.deadline)

/-- A stream's next-send time (R164). -/
def Zone.nextSend (z : Zone) : Stream → Option Time
  | .voice => z.voiceNext
  | .bed => z.bedNext

/-- A zone with a stream's next-send time cleared (R164). -/
def Zone.clearNext (z : Zone) : Stream → Zone
  | .voice => { z with voiceNext := none }
  | .bed => { z with bedNext := none }

/-! ## The rows -/

/-- FRAME_START (R19). -/
def execFrameStart (l : LineIx) (s : State) : Result :=
  .next (if expired s.now (s.lines[l]).nextStart then frameStart l s else s)

/-- REPLY_WINDOW (R29). -/
def execReplyWindow (l : LineIx) (k : SlotIx) (word : Option (BitVec 17)) (s : State) : Result :=
  .next (if (s.lines[l]).frame.isSome = true ∧ ((s.lines[l]).windows)[k] = .opened then closeWindow l k word s else s)

/-- FRAME_END (R30). -/
def execFrameEnd (l : LineIx) (s : State) : Result :=
  .next (match (s.lines[l]).frame with | some start => frameEnd l start s | none => s)

/-- LINGER_EXPIRY (R41). -/
def execLingerExpiry (b : BayIx) (s : State) : Result :=
  .next (if expired s.now (s.bays[b]).linger then lingerExpires b s else s)

/-- HOLD_RELEASE_EXPIRY (R43). -/
def execHoldReleaseExpiry (b : BayIx) (s : State) : Result :=
  .next (if expired s.now (s.bays[b]).holdRelease then holdReleaseExpires b s else s)

/-- STALE_EXPIRY (R59). -/
def execStaleExpiry (w : WatchIx) (s : State) : Result :=
  .next (if expired s.now (s.watch[w]).deadline then staleExpires w s else s)

/-- FADE_END_EVENT (R78). -/
def execFadeEndEvent (l : LineIx) (k : SlotIx) (s : State) : Result :=
  .next (if expired s.now (s.fade l k).deadline then s.modFade l k FadeRec.finish else s)

/-- THROTTLE_EXPIRY (R98). -/
def execThrottleExpiry (s : State) : Result := .next (if reached s.now s.throttle then rearmThrottle s else s)

/-- READY_TIME_EXPIRY (R108). -/
def execReadyTimeExpiry (c : SceneIx) (s : State) : Result :=
  .next
    (if (s.scenes[c]).cooling = true ∧ reached s.now (s.scenes[c]).ready = true then
      s.modScene c (fun r => { r with cooling := false })
    else s)

/-- WAIT_ENTRY_EXPIRY (R118). -/
def execWaitEntryExpiry (c : SceneIx) (s : State) : Result :=
  .next (match expiredEntry s c with | some e => removeEntry e .expired s | none => s)

/-- DUE_EVENT (R131). -/
def execDueEvent (i : InstIx) (s : State) : Result :=
  .next (dueIfReached i s)

/-- WAIT_TIMEOUT (R142). -/
def execWaitTimeout (i : InstIx) (s : State) : Result :=
  .next (match expiredWait s i with | some w => waitTimeout i w s | none => s)

/-- NEXT_SEND_EXPIRY (R164). -/
def execNextSendExpiry (z : ZoneIx) (stream : Stream) (s : State) : Result :=
  .next (if expired s.now ((s.zones[z]).nextSend stream) then s.modZone z (fun r => r.clearNext stream) else s)

/-- AXIS_END_DEADLINE (R178). -/
def execAxisEndDeadline (a : AxisIx) (s : State) : Result :=
  .next (if expired s.now (s.axes[a]).deadline then endRunOff (endDeadline a s) else s)

/-- REFILL_DEADLINE_EXPIRY (R175). -/
def execRefillDeadlineExpiry (a : AxisIx) (s : State) : Result :=
  .next (if reached s.now (s.axes[a]).refillDeadline then s.modAxis a (fun x => x.refill s.now) else s)

/-! ## The events that are due (log entries 1 and 2) -/

/-- The rows of an index range whose test holds. -/
def dueOf (n : Nat) (test : Fin n → Bool) (row : Fin n → Instr) : List Instr := ((List.finRange n).filter test).map row

/-- The events of the lines and the Level Pipeline that are due (R19, R59, R78). -/
def dueLevels (s : State) : List Instr :=
  dueOf 6 (fun l => expired s.now (s.lines[l]).nextStart) .frameStart ++
    dueOf 8 (fun w => expired s.now (s.watch[w]).deadline) .staleExpiry ++
    (List.finRange 6).flatMap (fun l => dueOf 48 (fun k => expired s.now (s.fade l k).deadline) (.fadeEndEvent l))

/-- The events of the bays, the throttle and the scenes that are due (R41, R43, R98, R108, R118, R131, R142). -/
def dueScenes (s : State) : List Instr :=
  dueOf 16 (fun b => expired s.now (s.bays[b]).linger) .lingerExpiry ++
    dueOf 16 (fun b => expired s.now (s.bays[b]).holdRelease) .holdReleaseExpiry ++
    (if reached s.now s.throttle then [.throttleExpiry] else []) ++
    dueOf 96 (fun c => (s.scenes[c]).cooling && reached s.now (s.scenes[c]).ready) .readyTimeExpiry ++
    (s.waitList.filter (fun e => reached s.now e.expiry)).map (fun e => .waitEntryExpiry e.scene) ++
    dueOf 12 (fun i => expired s.now (s.insts[i]).due) .dueEvent ++
    dueOf 12 (fun i => (expiredWait s i).isSome) .waitTimeout

/-- The events of narration and motion that are due (R164, R175, R178). -/
def dueMedia (s : State) : List Instr :=
  dueOf 24 (fun z => expired s.now (s.zones[z]).voiceNext) (fun z => .nextSendExpiry z .voice) ++
    dueOf 24 (fun z => expired s.now (s.zones[z]).bedNext) (fun z => .nextSendExpiry z .bed) ++
    dueOf 24 (fun a => expired s.now (s.axes[a]).deadline) .axisEndDeadline ++
    dueOf 24 (fun a => reached s.now (s.axes[a]).refillDeadline) .refillDeadlineExpiry

/-- The Command Unit's event, if one is due: the execution of the head, or the placing of its waiting answer (R9,
R10). -/
def dueCommand (s : State) : List Instr :=
  match s.cmd.waiting, s.cmd.queue with
  | none, c :: _ => [commandInstr c.tag c.code c.ops]
  | some _, _ => if s.ownRoom then [.waitingAnswerPlaced] else []
  | none, [] => []

/-- Every event the part itself takes now. -/
def dueEvents (s : State) : List Instr := dueCommand s ++ dueLevels s ++ dueScenes s ++ dueMedia s

/-- A millisecond passes (R8). -/
def tick (s : State) : State := s.modTrunk (fun t => { t with now := t.now + 1 })

/-- What a part with no command pending does next: nothing is due and a millisecond passes, or the one event that is due
comes, or the one of several that a free value picks (R8, log entries 1 and 2). -/
def idleChoice (s : State) : Option Instr × State :=
  match dueEvents s with
  | [] => (none, s)
  | [c] => (some c, s)
  | c :: rest => (some ((c :: rest).getD (Config.pickDue s.choices % (c :: rest).length) c), s.choose)

end Sys2Proof.Machine
end

