-- ==== Sys2Proof/Machine/Dispatch.lean ====
section
/-! DEFINITION. One arm per row of spec/opcode_table.json: the command's effect on everything but the queue of commands to
come. -/

namespace Sys2Proof.Machine

/-- The outcome of a command. -/
def exec (i : Instr) (s : State) : Host.Outcome State Fault Refusal :=
  match i with
  | .coldReset strap => Sys2Proof.Machine.execColdReset strap s
  | .linkUp p => Sys2Proof.Machine.execLinkUp p s
  | .linkDown p => Sys2Proof.Machine.execLinkDown p s
  | .levelFrame f => Sys2Proof.Machine.execLevelFrame f s
  | .clockFrame f => Sys2Proof.Machine.execClockFrame f s
  | .blockFrame f => Sys2Proof.Machine.execBlockFrame f s
  | .commandFrame f => Sys2Proof.Machine.execCommandFrame f s
  | .returnFrame f => Sys2Proof.Machine.execReturnFrame f s
  | .portBTransmissionDone => Sys2Proof.Machine.execPortBTransmissionDone s
  | .portATransmissionDone => Sys2Proof.Machine.execPortATransmissionDone s
  | .waitingAnswerPlaced => Sys2Proof.Machine.execWaitingAnswerPlaced s
  | .unknownCommand tag code ops => Sys2Proof.Machine.execUnknownCommand tag code ops s
  | .loadParams tag ops => Sys2Proof.Machine.execLoadParams tag ops s
  | .loadWatch tag ops => Sys2Proof.Machine.execLoadWatch tag ops s
  | .loadSlot tag ops => Sys2Proof.Machine.execLoadSlot tag ops s
  | .loadLine tag ops => Sys2Proof.Machine.execLoadLine tag ops s
  | .loadCurve tag ops => Sys2Proof.Machine.execLoadCurve tag ops s
  | .loadGroup tag ops => Sys2Proof.Machine.execLoadGroup tag ops s
  | .loadBay tag ops => Sys2Proof.Machine.execLoadBay tag ops s
  | .loadTrigger tag ops => Sys2Proof.Machine.execLoadTrigger tag ops s
  | .loadScene tag ops => Sys2Proof.Machine.execLoadScene tag ops s
  | .loadCue tag ops => Sys2Proof.Machine.execLoadCue tag ops s
  | .loadZone tag ops => Sys2Proof.Machine.execLoadZone tag ops s
  | .loadAxis tag ops => Sys2Proof.Machine.execLoadAxis tag ops s
  | .read tag ops => Sys2Proof.Machine.execRead tag ops s
  | .resetPart tag ops => Sys2Proof.Machine.execResetPart tag ops s
  | .lineOn tag ops => Sys2Proof.Machine.execLineOn tag ops s
  | .lineOff tag ops => Sys2Proof.Machine.execLineOff tag ops s
  | .openBay tag ops => Sys2Proof.Machine.execOpenBay tag ops s
  | .closeBay tag ops => Sys2Proof.Machine.execCloseBay tag ops s
  | .holdBay tag ops => Sys2Proof.Machine.execHoldBay tag ops s
  | .releaseBay tag ops => Sys2Proof.Machine.execReleaseBay tag ops s
  | .serviceBay tag ops => Sys2Proof.Machine.execServiceBay tag ops s
  | .parkSlot tag ops => Sys2Proof.Machine.execParkSlot tag ops s
  | .unparkSlot tag ops => Sys2Proof.Machine.execUnparkSlot tag ops s
  | .setMaster tag ops => Sys2Proof.Machine.execSetMaster tag ops s
  | .startScene tag ops => Sys2Proof.Machine.execStartScene tag ops s
  | .stopScene tag ops => Sys2Proof.Machine.execStopScene tag ops s
  | .resetAxis tag ops => Sys2Proof.Machine.execResetAxis tag ops s
  | .setReporting tag ops => Sys2Proof.Machine.execSetReporting tag ops s
  | .clearChecks tag ops => Sys2Proof.Machine.execClearChecks tag ops s
  | .frameStart line => Sys2Proof.Machine.execFrameStart line s
  | .replyWindow line slot word => Sys2Proof.Machine.execReplyWindow line slot word s
  | .frameEnd line => Sys2Proof.Machine.execFrameEnd line s
  | .lingerExpiry bay => Sys2Proof.Machine.execLingerExpiry bay s
  | .holdReleaseExpiry bay => Sys2Proof.Machine.execHoldReleaseExpiry bay s
  | .staleExpiry entry => Sys2Proof.Machine.execStaleExpiry entry s
  | .fadeEndEvent line slot => Sys2Proof.Machine.execFadeEndEvent line slot s
  | .throttleExpiry => Sys2Proof.Machine.execThrottleExpiry s
  | .readyTimeExpiry scene => Sys2Proof.Machine.execReadyTimeExpiry scene s
  | .waitEntryExpiry scene => Sys2Proof.Machine.execWaitEntryExpiry scene s
  | .dueEvent n => Sys2Proof.Machine.execDueEvent n s
  | .waitTimeout n => Sys2Proof.Machine.execWaitTimeout n s
  | .nextSendExpiry zone stream => Sys2Proof.Machine.execNextSendExpiry zone stream s
  | .axisEndDeadline axis => Sys2Proof.Machine.execAxisEndDeadline axis s
  | .refillDeadlineExpiry axis => Sys2Proof.Machine.execRefillDeadlineExpiry axis s
  | .malformedFrameReceived p f => Sys2Proof.Machine.execMalformedFrameReceived p f s
  | .loadUnknownTable tag ops => Sys2Proof.Machine.execLoadUnknownTable tag ops s

end Sys2Proof.Machine
end

