-- ==== Sys2Proof/Machine/Step.lean ====
section
/-! DEFINITION. One step of the block: the command at the front of the queue, or, with an empty queue, the part's own
next event or the passing of a millisecond (log entry 1). -/

namespace Sys2Proof.Machine

/-- One step: the front of the queue runs with the queue's rest. With nothing queued, the part takes an event that is
due, or part time passes (R8, log entries 1 and 2). -/
def step (s : State) : Host.Outcome State Fault Refusal :=
  match s.pending with
  | c :: rest => exec c { s with pending := rest }
  | [] =>
    match idleChoice s with
    | (some c, t) => exec c t
    | (none, t) => .next (tick t)

/-- The command that a word spells, put at the front of the queue; the table gives no row any bits, so no word spells
one and the state is unchanged. -/
def State.withFetchWord (s : State) (nbits w : Nat) : State :=
  match decodeTableWord nbits w with
  | some c => { s with pending := c :: s.pending }
  | none => s

end Sys2Proof.Machine
end

