-- ==== Sys2Proof/Safety.lean ====
section
/-! DEFINITION. The terms in which statements about the part are made: the parts of the state and what stays the same
(frames), the bytes of layouts field by field, and the invariants of its records, queues and owners that every step keeps. -/

namespace Sys2Proof.Machine

/-! ## Frames -/

/-- The parts of the state, one per field. -/
inductive Part
  | pending | trunk | cmd | params | lines | bays | watch | curves | curvesInForce | parks | fades | groups | triggers
  | throttle | scenes | insts | waitList | cues | zones | pool | axes | checks | choices
deriving DecidableEq, Repr

/-- A part is the same in two states. -/
def State.same (s t : State) : Part → Prop
  | .pending => t.pending = s.pending
  | .trunk => t.trunk = s.trunk
  | .cmd => t.cmd = s.cmd
  | .params => t.params = s.params
  | .lines => t.lines = s.lines
  | .bays => t.bays = s.bays
  | .watch => t.watch = s.watch
  | .curves => t.curves = s.curves
  | .curvesInForce => t.curvesInForce = s.curvesInForce
  | .parks => t.parks = s.parks
  | .fades => t.fades = s.fades
  | .groups => t.groups = s.groups
  | .triggers => t.triggers = s.triggers
  | .throttle => t.throttle = s.throttle
  | .scenes => t.scenes = s.scenes
  | .insts => t.insts = s.insts
  | .waitList => t.waitList = s.waitList
  | .cues => t.cues = s.cues
  | .zones => t.zones = s.zones
  | .pool => t.pool = s.pool
  | .axes => t.axes = s.axes
  | .checks => t.checks = s.checks
  | .choices => t.choices = s.choices

/-- Every part of the state outside a list is the same. -/
def State.sameBut (s t : State) (ps : List Part) : Prop := ∀ p, p ∉ ps → s.same t p

/-- Every record of a table but one is the same. -/
def othersSame {α : Type} {n : Nat} (v w : Vector α n) (i : Fin n) : Prop := ∀ k : Fin n, k ≠ i → w[k] = v[k]

/-- The Trunk Port's fields that a placed answer or report leaves alone (R6, R7): every field but the own queue, the
relay queue, the frame being sent and last served. -/
def Trunk.sameOutside (t u : Trunk) : Prop :=
  u.linkA = t.linkA ∧ u.linkB = t.linkB ∧ u.bOut = t.bOut ∧ u.station = t.station ∧ u.offset = t.offset ∧
    u.now = t.now ∧ u.linkErrors = t.linkErrors ∧ u.downDrops = t.downDrops ∧ u.returnDrops = t.returnDrops ∧
    u.busyDiscards = t.busyDiscards

/-! ## Bytes of layouts -/

/-- The bytes of a row of fields, each given by its width in bytes and its number, high byte first (12). -/
def spell (fields : List (Nat × Nat)) : List Byte :=
  fields.flatMap (fun f => (List.range f.1).map (fun j => BitVec.ofNat 8 (f.2 / 256 ^ (f.1 - 1 - j))))

/-- The field of a lone flag: one byte, 01h set and 00h clear (log entry 45). -/
def flagField (b : Bool) : Nat × Nat := (1, if b then 1 else 0)

/-- The field of an enumerated value: its place in the list, from 0 (R196). -/
def placeField {α : Type} [DecidableEq α] (list : List α) (x : α) : Nat × Nat := (1, list.idxOf x)

/-- A field that may be none: every bit set when it is (R196). -/
def optField (width : Nat) (o : Option Nat) : Nat × Nat := (width, o.getD (256 ^ width - 1))

/-- The fields of a time or deadline that may be none: a presence byte and the four-byte time (R196), 0 when there is
none (log entry 7). -/
def timeFields : Option Time → List (Nat × Nat)
  | some t => [(1, 1), (4, t.toNat)]
  | none => [(1, 0), (4, 0)]

/-- The bay states in the order of their codes (R196). -/
def bayStates : List BayState := [.dark, .attract, .live, .hold, .service]

/-- The origins of a request in the order of their codes (7.2). -/
def origins : List Origin := [.trigger, .bay, .command]

/-- The field of a set of hold causes, first member in bit 0 (R196, 3.3). -/
def causesField (h : HoldCauses) : Nat × Nat :=
  (1, (flagField h.sensor).2 + 2 * (flagField h.command).2 + 4 * (flagField h.fault).2)

/-- The field of the report-kind mask, TRIGGER in bit 0 (12.2). -/
def maskField (m : KindMask) : Nat × Nat :=
  (1, (flagField m.trigger).2 + 2 * (flagField m.scene).2 + 4 * (flagField m.bay).2 + 8 * (flagField m.pace).2 +
    16 * (flagField m.check).2)

/-- The class and the severity of a check, each by its place in 11.1. -/
def classFields (o : CheckObject) : List (Nat × Nat) :=
  [placeField [.link, .relay, .node, .reply, .stale, .cue, .pool, .axis] o.cls,
    placeField [.notice, .severe, .fatal] o.cls.severity]

/-- The fields of a check's object, in the order of 11.1. -/
def objectFields : CheckObject → List (Nat × Nat)
  | .port p => [placeField [.a, .b] p]
  | .queue q => [placeField [.bOut, .own, .relay] q]
  | .node l n => [(1, l.val), (1, n.val)]
  | .reply l k n => [(1, l.val), (1, k.val), (1, n.val)]
  | .watch w u => [(1, w.val), optField 2 (u.map (·.val))]
  | .cue c i x t =>
    [(1, c.val), (1, i.val), (2, x), placeField [.outside, .unknownKind, .group, .zone, .axis, .safetyMove] t]
  | .chunk z cls clip seq r =>
    [(1, z), (1, cls.toNat), (2, clip), (2, seq),
      placeField [.unknownZone, .badClass, .unclaimed, .ambientOff, .reserve, .poolFull, .zoneLimit] r]
  | .axis a c => [(1, a.val), placeField [.following, .feedbackLost] c]

/-! ## Commands and changes of state -/

/-- The part once the answer of a command is offered (R10, R11). -/
def replied (tag code : Byte) (r : Reply) (s : State) : State :=
  offerAnswer { tag := tag, code := code, status := r.status, detail := r.detail } s

/-- The answer of a LOAD that skipped one entry (R14). -/
def Reply.skip (k : Nat) (r : SkipReason) : Reply := { status := .inUse, detail := .skipped k 1 r }

/-- The operand bytes of a LOAD of one entry (12.2). -/
def loadOne (table line : Byte) (k : Nat) (e : List Byte) : List Byte :=
  table :: line :: (toBytes2 k ++ (toBytes2 1 ++ e))

/-- The bytes of one entry of a loadable table (12.3). -/
def entrySize (table : Nat) : Nat := [8, 2, 11, 9, 34, 33, 12, 8, 34, 10, 24, 29].getD table 0

/-- The entries of a loadable table (12.3). -/
def tableLength (table : Nat) : Nat := [1, 8, 48, 6, 8, 64, 16, 128, 96, 2048, 24, 24].getD table 0

/-- Whether every field of an entry can represent its value (R13). -/
def entryFits (table : Nat) (e : List Byte) : Bool :=
  match table with
  | 0 => (parseParams e).isSome
  | 1 => (parseWatch e).isSome
  | 2 => (parseSlot e).isSome
  | 3 => (parseLine e).isSome
  | 4 => (parseCurve e).isSome
  | 5 => (parseGroup e).isSome
  | 6 => (parseBay e).isSome
  | 7 => (parseTrigger e).isSome
  | 8 => (parseScene e).isSome
  | 9 => (parseCue e).isSome
  | 10 => (parseZone e).isSome
  | 11 => (parseAxis e).isSome
  | _ => false

/-- What a LOAD makes of the bytes of one entry, by its table's fields and its table's tests. -/
def putBytes {α : Type} {n : Nat} (parse : List Byte → Option α) (put : Put n α) (k : Nat) (e : List Byte) (s : State) :
    Except SkipReason State :=
  match parse e, index? n k with
  | some a, some i => put i a s
  | _, _ => .error .badValue

/-- What a LOAD makes of one entry of a table, in the state that the entries of lower index left: the state with it
written, or the reason it is skipped (R14). -/
def writeEntry (table : Nat) (line : Byte) (k : Nat) (e : List Byte) (s : State) : Except SkipReason State :=
  match table with
  | 0 => putBytes parseParams putParams k e s
  | 1 => putBytes parseWatch putWatch k e s
  | 2 =>
    match index? 6 line.toNat with
    | some l => putBytes parseSlot (putSlot l) k e s
    | none => .error .badValue
  | 3 => putBytes parseLine putLine k e s
  | 4 => putBytes parseCurve putCurve k e s
  | 5 => putBytes parseGroup putGroup k e s
  | 6 => putBytes parseBay putBay k e s
  | 7 => putBytes parseTrigger putTrigger k e s
  | 8 => putBytes parseScene putScene k e s
  | 9 => putBytes parseCue putCue k e s
  | 10 => putBytes parseZone putZone k e s
  | 11 => putBytes parseAxis putAxis k e s
  | _ => .error .badValue

/-- The part once a LOAD of one entry is answered: OK with the entry written, or IN_USE with the entry and the reason
(R14). -/
def loadAnswered (tag : Byte) (k : Nat) (s : State) : Except SkipReason State → State
  | .ok t => replied tag 0x01 .ok t
  | .error x => replied tag 0x01 (.skip k x) s

/-- Whether every entry of a LOAD can be represented (R13). -/
def entriesFit (table count : Nat) (bytes : List Byte) : Bool :=
  (List.range count).all (fun j => entryFits table ((bytes.drop (j * entrySize table)).take (entrySize table)))

/-- Two entries of a loadable table that write the same record (12.3, R13, R14). -/
def entryAgrees (table : Nat) (a b : List Byte) : Prop :=
  match table with
  | 0 => parseParams a = parseParams b
  | 1 => parseWatch a = parseWatch b
  | 2 => parseSlot a = parseSlot b
  | 3 => parseLine a = parseLine b
  | 4 => parseCurve a = parseCurve b
  | 5 => parseGroup a = parseGroup b
  | 6 => parseBay a = parseBay b
  | 7 => parseTrigger a = parseTrigger b
  | 8 => parseScene a = parseScene b
  | 9 => parseCue a = parseCue b
  | 10 => parseZone a = parseZone b
  | 11 => parseAxis a = parseAxis b
  | _ => False

/-- The cue kind and the operands that an entry's bytes spell (12.3, R128). -/
def CueKind.spelt (k : CueKind) (e : List Byte) : Prop :=
  let waits (code : Nat) (object timeout : Nat) (action : TimeoutAction) : Prop :=
    num1 e 2 = code ∧ num1 e 3 = object ∧ num2 e 4 = timeout ∧
      num1 e 6 = (match action with | .next => 0 | .endIt => 1)
  match k with
  | .endScene => num1 e 2 = 0
  | .light g base level fade =>
    num1 e 2 = 1 ∧ num1 e 3 = g.val ∧ num1 e 4 = (if base then 1 else 0) ∧ num2 e 5 = level ∧
      fade = min (num3 e 7) 600000
  | .voice z clip => num1 e 2 = 2 ∧ num1 e 3 = z.val ∧ num2 e 4 = clip
  | .move a target speed => num1 e 2 = 3 ∧ num1 e 3 = a.val ∧ num2 e 4 = target ∧ num2 e 6 = speed
  | .waitTrigger x timeout action => waits 4 x.val timeout action
  | .waitMotion x timeout action => waits 5 x.val timeout action
  | .waitClip x timeout action => waits 6 x.val timeout action
  | .jump target count => num1 e 2 = 7 ∧ num2 e 3 = target ∧ num1 e 5 = count
  | .unknown code ops => 8 ≤ num1 e 2 ∧ code = e.getD 2 0 ∧ ops = e.drop 3

/-- A change of a bay's state (R45): the record takes the new state, four blocks take the change (what they do with it is
`BayChangeTaken`), the attract scene is requested at an entry to ATTRACT, and the BAY report is offered last. -/
def entersState (b : BayIx) (new : BayState) (cause : BayCause) (s t : State) : Prop :=
  ∃ v : State,
    v = handOver b (s.bayState b) new
      { s with
        bays := upd s.bays b (fun r =>
          { r with state := new, entryTime := s.now, linger := if r.state = .live then none else r.linger }) } ∧
    v.bays = upd s.bays b (fun r =>
      { r with state := new, entryTime := s.now, linger := if r.state = .live then none else r.linger }) ∧
    s.sameBut v
      [.bays, .choices, .insts, .fades, .groups, .zones, .pool, .axes, .scenes, .waitList, .trunk, .checks] ∧
    s.trunk.sameOutside v.trunk ∧ t.bays = v.bays ∧
    t = offerReport (.bay b (s.bayState b) new cause (s.bays[b]).causes (s.bays[b]).occupancy
        (s.bays[b]).intrusions.length)
      (match new, (s.bays[b]).attractScene with
        | .attract, some c => (request c .bay v).1
        | _, _ => v)

/-- Two acts of one event, in one order or the other; one free choice is counted (log entry 3). -/
def inSomeOrder (f g : State → State) (s t : State) : Prop :=
  let u : State := { s with choices := s.choices + 1 }
  t = g (f u) ∨ t = f (g u)

/-! ## Notices to the Cue Engine -/

/-- An instance record once a wait it held is complete: at its next cue, due after that cue's delay (R133, R141). -/
def Inst.passed (n : Inst) (s : State) : Inst :=
  let k : CueIx := Fin.ofNat 2048 (n.cue.val + 1)
  { n with wait := none, cue := k, due := some (later s.now (s.cues[k]).delay) }

/-- The instance records once every RUNNING instance that waits on an object has passed to its next cue (R141). -/
def State.passedOn (s : State) (on : WaitOn) : Vector Inst 12 :=
  tabulate 12 (fun i => if (s.insts[i]).waitsOn on = true then (s.insts[i]).passed s else s.insts[i])

/-- No RUNNING instance that waits on an object stands at cue 2,047. -/
def State.mayPass (s : State) (on : WaitOn) : Prop :=
  ∀ i : InstIx, (s.insts[i]).waitsOn on = true → (s.insts[i]).cue.val < 2047

/-! ## The trunk -/

/-- The Trunk Port's queues keep within their sizes; port B sends nothing and holds nothing while DOWN; port A sends
nothing while DOWN, and is not idle while it is UP and a queue of it holds a frame (R1, R4 to R7). -/
def Trunk.ok (t : Trunk) : Prop :=
  t.own.length ≤ Config.ownMax ∧ t.relay.length ≤ Config.relayMax ∧ t.bOut.length ≤ Config.bOutMax ∧
    (t.linkB = .down → t.bOut = []) ∧ (t.linkA = .down → t.sendingA = none) ∧
    (t.linkA = .up → t.sendingA = none → t.own = [] ∧ t.relay = [])

/-- The command queue keeps within its size, and an answer waits only for the command at its head (R9, R10). -/
def CommandUnit.ok (c : CommandUnit) : Prop :=
  c.queue.length ≤ Config.cmdMax ∧ (c.waiting.isSome = true → c.queue ≠ [])

/-- The invariant of the Trunk Port and the Command Unit. -/
def TrunkOk (s : State) : Prop := s.trunk.ok ∧ s.cmd.ok

/-! ## Bays and triggers -/

/-- What the hold causes and the occupancy are in each bay state (3.3, R45). -/
def Bay.stateOk (b : Bay) : Prop :=
  match b.state with
  | .dark | .service => b.causes.command = false ∧ b.causes.fault = false
  | .attract => b.causes = {} ∧ b.occupancy = 0
  | .live => b.causes = {}
  | .hold => b.causes ≠ {}

/-- A bay record: the occupancy's range, an intrusion set without duplicates, SENSOR exactly while the count is above 0
or the hold release deadline is pending, that deadline only at count 0, the linger deadline exactly in an empty LIVE bay
(3.1, 3.3, R40 to R46). -/
def Bay.ok (b : Bay) : Prop :=
  b.occupancy ≤ occupancyMax ∧ b.intrusions.Nodup ∧ (b.holdRelease.isSome = true → b.intrusions = []) ∧
    (b.causes.sensor = true ↔ b.intrusions ≠ [] ∨ b.holdRelease.isSome = true) ∧
    (b.linger.isSome = true ↔ b.state = .live ∧ b.occupancy = 0) ∧ b.stateOk

/-- The invariant of the bay table. -/
def BaysOk (s : State) : Prop := ∀ b : BayIx, (s.bays[b]).ok

/-- The INTRUSION entries of a bay. -/
def intrusionEntries (s : State) (b : BayIx) : List TrigIx :=
  (List.finRange 128).filter (fun e => (s.triggers[e]).action.intrusionBay == some b)

/-- The invariant of the trigger table: allowances and credits in range, no two used entries with one key, at most 16
INTRUSION entries per bay (R91). -/
def TriggersOk (s : State) : Prop :=
  (∀ e : TrigIx, 1 ≤ (s.triggers[e]).allowance ∧ (s.triggers[e]).allowance ≤ 15 ∧
    (s.triggers[e]).credit ≤ (s.triggers[e]).allowance) ∧
  (∀ e f : TrigIx, (s.triggers[e]).action.kind ≠ .none → (s.triggers[f]).action.kind ≠ .none →
    (s.triggers[e]).sameKey (s.triggers[f]) = true → e = f) ∧
  ∀ b : BayIx, (intrusionEntries s b).length ≤ 16

/-- The notified level of each INTRUSION entry of a bay is exactly whether the entry stands in that bay's intrusion set
(R100). -/
def IntrusionsOk (s : State) : Prop :=
  ∀ (b : BayIx) (e : TrigIx), e ∈ (s.bays[b]).intrusions ↔
    (s.triggers[e]).action.intrusionBay = some b ∧ (s.triggers[e]).active = true

/-! ## Fades -/

/-- A fade record: an end deadline exactly while FADING, then t0 + D with D from 1 to 600,000; and a remaining time of at
most 600,000 (R76). -/
def FadeRec.ok (f : FadeRec) : Prop :=
  (f.state = .fading ↔ f.deadline.isSome = true) ∧
    (f.state = .fading → 1 ≤ f.duration ∧ f.duration ≤ Config.longest ∧ f.deadline = some (later f.t0 f.duration)) ∧
    f.remaining ≤ Config.longest

/-- The invariant of the fade records. -/
def FadesOk (s : State) : Prop := ∀ (l : LineIx) (k : SlotIx), (s.fade l k).ok

/-- The member lists of the light groups: at most 16 members, no slot twice, and no slot in two groups (R83). -/
def GroupsOk (s : State) : Prop :=
  (∀ g : GroupIx, (s.groups[g]).members.length ≤ 16 ∧ (s.groups[g]).members.Nodup) ∧
    ∀ (g h : GroupIx) (m : LineIx × SlotIx), m ∈ (s.groups[g]).members → m ∈ (s.groups[h]).members → g = h

/-! ## Lines -/

/-- Line parameters in their clamped ranges (R24). -/
def LineParams.ok (p : LineParams) : Prop := 5 ≤ p.interval ∧ p.interval ≤ 250 ∧ p.allowance ≤ 12

/-- A node table's row: at most 3 misses, and ABSENT exactly at 3 (R31). -/
def Node.ok (n : Node) : Prop := n.misses ≤ 3 ∧ (n.presence = .absent ↔ n.misses = 3)

/-- The pool blocks of the chunks in transmission. -/
def carriedBlocks (l : List Carried) : Nat := (l.map (fun c => c.chunk.blocks)).sum

/-- A Line Engine: RUNNING exactly while it holds a frame in progress or a next frame start, and never both; a stop
pending and chunks in transmission only within a frame; the chunks within the allowance in force (R19 to R21, R24, R31,
R34). -/
def LineEngine.ok (e : LineEngine) : Prop :=
  (e.frame.isSome = true → e.nextStart = none) ∧
    (e.running = true ↔ e.frame.isSome = true ∨ e.nextStart.isSome = true) ∧
    (e.stopPending = true → e.frame.isSome = true) ∧ (e.frame = none → e.block = []) ∧
    carriedBlocks e.block ≤ e.params.allowance ∧ e.params.ok ∧ e.loadedParams.ok ∧ ∀ n : NodeIx, (e.nodes[n]).ok

/-- The invariant of the Line Engines. -/
def LinesOk (s : State) : Prop := ∀ l : LineIx, (s.lines[l]).ok

/-! ## Narration -/

/-- The blocks of a zone's chunks in transmission on one line. -/
def carriedFor (z : ZoneIx) (l : List Carried) : Nat := carriedBlocks (l.filter (fun c => c.zone == z))

/-- The blocks of a zone's chunks in transmission. -/
def inTransmission (s : State) (z : ZoneIx) : Nat := ((List.finRange 6).map (fun l => carriedFor z (s.lines[l]).block)).sum

/-- A zone's usage is the blocks of its queued chunks and its chunks in transmission; the free blocks and all usages
number 1,536 (R149, 9.2). -/
def PoolOk (s : State) : Prop :=
  (∀ z : ZoneIx, (s.zones[z]).usage =
    blocksOf (s.zones[z]).announceQ + blocksOf (s.zones[z]).sceneQ + blocksOf (s.zones[z]).ambientQ +
      inTransmission s z) ∧
  s.pool.free + ((List.finRange 24).map (fun z => (s.zones[z]).usage)).sum = Config.poolBlocks

/-- Every chunk in a zone's SCENE queue carries the clip id the zone expects, and the zone has an owner (R157). -/
def Zone.clipOk (z : Zone) : Prop := (z.sceneQ ≠ [] → z.owner.isSome = true) ∧ ∀ c ∈ z.sceneQ, c.clip = z.clip

/-- The invariant of the SCENE queues. -/
def ClipsOk (s : State) : Prop := ∀ z : ZoneIx, (s.zones[z]).clipOk

/-! ## Motion -/

/-- An axis: an end deadline exactly while MOVING; buckets within their sizes, the residue below a token, the refill
deadline 600,000 ms after the last refill; the loaded speeds and the fault count in their ranges, and a moving speed
from 1 to 16,383 (10, 10.2, R169, R170, R175, R177). -/
def Axis.ok (a : Axis) : Prop :=
  (a.state = .moving ↔ a.deadline.isSome = true) ∧ a.c ≤ a.cbs ∧ a.e ≤ a.ebs ∧ a.residue ≤ 999 ∧
    a.refillDeadline = later a.refilled Config.longest ∧ a.following ≤ 15 ∧
    (1 ≤ a.maxSpeed ∧ a.maxSpeed ≤ 16383) ∧ (1 ≤ a.slowSpeed ∧ a.slowSpeed ≤ 16383) ∧
    (1 ≤ a.defaultSpeed ∧ a.defaultSpeed ≤ 16383) ∧ (1 ≤ a.faultCount ∧ a.faultCount ≤ 15) ∧
    (a.state = .moving → 1 ≤ a.speed ∧ a.speed ≤ 16383)

/-- The invariant of the axes. -/
def AxesOk (s : State) : Prop := ∀ a : AxisIx, (s.axes[a]).ok

/-! ## Admission and instances -/

/-- An instance record: never both a due time and a wait, remaining times only while SUSPENDED, and a FREE record without
a due time, a wait and a loop owner (R127). -/
def Inst.ok (n : Inst) : Prop :=
  (n.due.isSome = true → n.wait = none) ∧
    (n.remDue.isSome = true → n.state = .suspended ∧ n.due = none ∧ n.wait = none) ∧
    (n.remWait.isSome = true → n.state = .suspended ∧ ∃ w, n.wait = some w ∧ w.deadline = none) ∧
    (n.state = .free → n.due = none ∧ n.wait = none ∧ n.loopOwner = none)

/-- The invariant of the instance records. -/
def InstsOk (s : State) : Prop := ∀ i : InstIx, (s.insts[i]).ok

/-- How long a wait entry has stood at a part time (R114). -/
def WaitEntry.waited (e : WaitEntry) (now : Time) : Nat := (now - e.enqueued).toNat

/-- A wait entry stands before another: its priority is higher, or equal and its enqueue no later (R115). -/
def WaitEntry.before (now : Time) (a b : WaitEntry) : Prop :=
  b.priority < a.priority ∨ (b.priority = a.priority ∧ b.waited now ≤ a.waited now)

/-- A wait entry expires one wait limit of at most 120,000 ms after its enqueue, and that time has not gone past (R106,
R114, R118). -/
def WaitEntry.ok (now : Time) (e : WaitEntry) : Prop :=
  e.waited now ≤ e.waited e.expiry ∧ e.waited e.expiry ≤ 120000

/-- The wait list: at most 8 entries, by priority from high to low and among equal priorities by enqueue time, earliest
first, none past its expiry; and every scene's wait limit in its clamped range (R106, R114, R115). -/
def WaitListOk (s : State) : Prop :=
  s.waitList.length ≤ Config.waitMax ∧ s.waitList.Pairwise (WaitEntry.before s.now) ∧
    (∀ e ∈ s.waitList, e.ok s.now) ∧ ∀ c : SceneIx, (s.scenes[c]).waitLimit ≤ 120000

/-- A scene number is held by at most one busy instance or by one wait-list entry, never by both, and never twice
(R106). -/
def ScenesOk (s : State) : Prop :=
  (∀ i j : InstIx, (s.insts[i]).busy = true → (s.insts[j]).busy = true → (s.insts[i]).scene = (s.insts[j]).scene →
    i = j) ∧
  (s.waitList.map WaitEntry.scene).Nodup ∧
  ∀ e ∈ s.waitList, ∀ i : InstIx, (s.insts[i]).busy = true → (s.insts[i]).scene ≠ e.scene

/-- Each group, zone and axis is owned exactly by the busy instance whose scene record claims it (R113). -/
def OwnersOk (s : State) : Prop :=
  (∀ (g : GroupIx) (i : InstIx),
    (s.groups[g]).owner = some i ↔ (s.insts[i]).busy = true ∧ g ∈ (s.sceneOf i).groups) ∧
  (∀ (z : ZoneIx) (i : InstIx), (s.zones[z]).owner = some i ↔ (s.insts[i]).busy = true ∧ z ∈ (s.sceneOf i).zones) ∧
  ∀ (a : AxisIx) (i : InstIx), (s.axes[a]).owner = some i ↔ (s.insts[i]).busy = true ∧ a ∈ (s.sceneOf i).axes

/-- An axis is MOVING only with an owner (10.2). -/
def MovingOwned (s : State) : Prop := ∀ a : AxisIx, (s.axes[a]).state = .moving → (s.axes[a]).owner.isSome = true

/-- The invariant of admission: instance records, scene numbers, owners and moving axes. -/
def AdmissionOk (s : State) : Prop := InstsOk s ∧ ScenesOk s ∧ OwnersOk s ∧ MovingOwned s

end Sys2Proof.Machine
end

