-- ==== Sys2Proof/Certificates/Slice0/Obligations.lean ====
section
/-! DEFINITION. The statements for the provers: what the commands and events of the KS-460 do, rule by rule, and the
invariants every step keeps. A command row is stated for its command at the head of the command queue
(`atHead`), and its conclusion names the state after its answer was offered (`replied`); what offering an answer does is
`AnswerOffered`. -/

open Sys2Proof Sys2Proof.Machine

/-! ## The block's queue, completion and reset -/

/-- One step runs the command at the front of the queue with the queue's rest. -/
def Obligations.StepRunsFront : Prop :=
  ∀ (c : Instr) (rest : List Instr) (s : State),
    step { s with pending := c :: rest } = exec c { s with pending := rest }

/-- With no command queued, a part to which no event is due lets a millisecond pass; else it takes one of the events that
are due (R8; log entries 1 and 2: the model's choice of what an idle step does). Due are exactly: the execution of the
command at the head while no answer waits (R9), the placing of a waiting answer for which there is room (R10), and every
expiry whose deadline is held and reached, a frame start and a due event among them (R8). -/
def Obligations.IdleStep : Prop :=
  (∀ s : State, s.pending = [] →
    (dueEvents s = [] → step s = .next { s with trunk := { s.trunk with now := s.trunk.now + 1 } }) ∧
    (dueEvents s ≠ [] → ∃ c ∈ dueEvents s, ∃ n : Nat, step s = exec c { s with choices := n })) ∧
  ∀ (s : State) (x : Instr),
    let due (d : Option Time) : Prop := ∃ t, d = some t ∧ reached s.now t = true
    x ∈ dueEvents s ↔
      (s.cmd.waiting = none ∧ ∃ c rest, s.cmd.queue = c :: rest ∧ x = commandInstr c.tag c.code c.ops) ∨
      (s.cmd.waiting.isSome = true ∧ s.trunk.own.length < 32 ∧ x = .waitingAnswerPlaced) ∨
      (∃ l : LineIx, due (s.lines[l]).nextStart ∧ x = .frameStart l) ∨
      (∃ w : WatchIx, due (s.watch[w]).deadline ∧ x = .staleExpiry w) ∨
      (∃ (l : LineIx) (k : SlotIx), due (s.fade l k).deadline ∧ x = .fadeEndEvent l k) ∨
      (∃ b : BayIx, due (s.bays[b]).linger ∧ x = .lingerExpiry b) ∨
      (∃ b : BayIx, due (s.bays[b]).holdRelease ∧ x = .holdReleaseExpiry b) ∨
      (reached s.now s.throttle = true ∧ x = .throttleExpiry) ∨
      (∃ c : SceneIx, (s.scenes[c]).cooling = true ∧ reached s.now (s.scenes[c]).ready = true ∧
        x = .readyTimeExpiry c) ∨
      (∃ e ∈ s.waitList, reached s.now e.expiry = true ∧ x = .waitEntryExpiry e.scene) ∨
      (∃ i : InstIx, due (s.insts[i]).due ∧ x = .dueEvent i) ∨
      (∃ (i : InstIx) (w : Wait), (s.insts[i]).wait = some w ∧ due w.deadline ∧ x = .waitTimeout i) ∨
      (∃ z : ZoneIx, due (s.zones[z]).voiceNext ∧ x = .nextSendExpiry z .voice) ∨
      (∃ z : ZoneIx, due (s.zones[z]).bedNext ∧ x = .nextSendExpiry z .bed) ∨
      (∃ a : AxisIx, due (s.axes[a]).deadline ∧ x = .axisEndDeadline a) ∨
      ∃ a : AxisIx, reached s.now (s.axes[a]).refillDeadline = true ∧ x = .refillDeadlineExpiry a

/-- Every command and event of the part completes in every state, and leaves the queue of commands to come alone. The
model's choice: that an event which cannot come about in a state answers next too, with nothing changed (log entry 4),
and the queue of commands to come, which is the model's own (log entry 1). -/
def Obligations.EveryCommandAnswersNext : Prop :=
  ∀ (c : Instr) (s : State), ∃ t, exec c s = .next t ∧ t.pending = s.pending

/-- A deadline set at most 600,000 ms ahead is not reached before its time and is reached from then on, for 2^31 ms,
across a wrap of part time (R8). -/
def Obligations.DeadlineReached : Prop :=
  ∀ (set : Time) (ahead passed : Nat), ahead ≤ 600000 → passed < 2147483648 →
    (reached (later set passed) (later set ahead) = true ↔ ahead ≤ passed)

/-- The row a command executes as, code by code (12.2) and, for a LOAD, table byte by table byte (12.3): SLOT only with a
line of 0 to 5, and any other table byte is the unknown table (R13); any other code is unknown (R11). A LOAD without a
line byte or without any operand byte is the model's choice (log entry 16). Each of these rows is well-formed when its
operand bytes fit in a COMMAND frame (R196). -/
def Obligations.CommandRows : Prop :=
  (∀ (tag : Byte) (ops : List Byte),
    let row (code : Byte) : Instr := commandInstr tag code ops
    row 0x02 = .read tag ops ∧ row 0x03 = .resetPart tag ops ∧
    row 0x10 = .lineOn tag ops ∧ row 0x11 = .lineOff tag ops ∧
    row 0x20 = .openBay tag ops ∧ row 0x21 = .closeBay tag ops ∧ row 0x22 = .holdBay tag ops ∧
    row 0x23 = .releaseBay tag ops ∧ row 0x24 = .serviceBay tag ops ∧
    row 0x30 = .parkSlot tag ops ∧ row 0x31 = .unparkSlot tag ops ∧ row 0x32 = .setMaster tag ops ∧
    row 0x40 = .startScene tag ops ∧ row 0x41 = .stopScene tag ops ∧ row 0x50 = .resetAxis tag ops ∧
    row 0x60 = .setReporting tag ops ∧ row 0x61 = .clearChecks tag ops ∧
    ∀ code : Byte,
      code ∉ ([0x01, 0x02, 0x03, 0x10, 0x11, 0x20, 0x21, 0x22, 0x23, 0x24, 0x30, 0x31, 0x32, 0x40, 0x41, 0x50, 0x60,
        0x61] : List Byte) →
      row code = .unknownCommand tag code ops) ∧
  (∀ (tag line : Byte) (rest : List Byte),
    let ops (table : Byte) : List Byte := table :: line :: rest
    let load (table : Byte) : Instr := commandInstr tag 0x01 (ops table)
    load 0x00 = .loadParams tag (ops 0x00) ∧ load 0x01 = .loadWatch tag (ops 0x01) ∧
    (line.toNat ≤ 5 → load 0x02 = .loadSlot tag (ops 0x02)) ∧
    (5 < line.toNat → load 0x02 = .loadUnknownTable tag (ops 0x02)) ∧
    load 0x03 = .loadLine tag (ops 0x03) ∧ load 0x04 = .loadCurve tag (ops 0x04) ∧
    load 0x05 = .loadGroup tag (ops 0x05) ∧ load 0x06 = .loadBay tag (ops 0x06) ∧
    load 0x07 = .loadTrigger tag (ops 0x07) ∧ load 0x08 = .loadScene tag (ops 0x08) ∧
    load 0x09 = .loadCue tag (ops 0x09) ∧ load 0x0A = .loadZone tag (ops 0x0A) ∧
    load 0x0B = .loadAxis tag (ops 0x0B) ∧
    ∀ table : Byte, 0x0B < table.toNat → load table = .loadUnknownTable tag (ops table)) ∧
  (∀ tag : Byte, commandInstr tag 0x01 [] = .loadUnknownTable tag [] ∧
    commandInstr tag 0x01 [0x02] = .loadSlot tag [0x02]) ∧
  ∀ (tag code : Byte) (ops : List Byte), ops.length ≤ 510 → (commandInstr tag code ops).wellFormed = true

/-- The part after a cold reset meets every invariant. -/
def Obligations.ResetMeetsInvariants : Prop :=
  TrunkOk State.reset ∧ BaysOk State.reset ∧ TriggersOk State.reset ∧ IntrusionsOk State.reset ∧ FadesOk State.reset ∧
    LinesOk State.reset ∧ PoolOk State.reset ∧ ClipsOk State.reset ∧ AxesOk State.reset ∧ WaitListOk State.reset ∧
    AdmissionOk State.reset ∧ GroupsOk State.reset

/-- A cold reset's Trunk Port, Command Unit, PARAMS and Check Unit, with the STARTED report alone in the own queue (R17,
R195); the queue of commands to come and the choice counter are the model's own and stay (log entry 24). -/
def Obligations.ColdResetTrunk : Prop :=
  ∀ (a : StationIx) (s : State), ∃ t, exec (.coldReset a) s = .next t ∧
    t.trunk =
      { linkA := .down, linkB := .down, bOut := [], relay := [], sendingA := none, lastServed := .relay, station := a
        own := [.report
          { showTime := 0, lost := 0,
            body := .started true 0 .severe
              { trigger := true, scene := true, bay := true, pace := true, check := true } (a == 63) }]
        offset := 0, now := 0, linkErrors := 0, downDrops := 0, returnDrops := 0, busyDiscards := 0 } ∧
    t.cmd = { queue := [], waiting := none } ∧
    t.params = { throttle := 2000, stale := 1000, ambientReserve := 192, sceneReserve := 48 } ∧
    (∀ k : Fin 8, t.checks.classes[k] = { seen := false, count := 0 }) ∧ t.checks.context = none ∧
    t.checks.mode = .severe ∧
    t.checks.mask = { trigger := true, scene := true, bay := true, pace := true, check := true } ∧ t.checks.lost = 0 ∧
    t.pending = s.pending ∧ t.choices = s.choices

/-- A cold reset's Line Engines, bays, Level Pipeline and Fade Unit; and its Trigger Unit, Admission Unit, Cue Engine,
Narration Buffer and Motion Governor (R36, R54, R74, R89, R103, R125, R147, R167, R185). -/
def Obligations.ColdResetTables : Prop :=
  (∀ (a : StationIx) (s : State), ∃ t, exec (.coldReset a) s = .next t ∧
     (∀ l : LineIx, (t.lines[l]).running = false ∧ (t.lines[l]).stopPending = false ∧ (t.lines[l]).nextStart = none ∧
       (t.lines[l]).frame = none ∧ (t.lines[l]).loadedParams = { interval := 25, allowance := 4, mask := 0 } ∧
       (t.lines[l]).params = { interval := 25, allowance := 4, mask := 0 } ∧ (t.lines[l]).replyErrors = 0) ∧
     (∀ (l : LineIx) (k : SlotIx),
       t.loadedSlot l k =
         { kind := .off, node := 0, bay := 0, patch := none, merge := .take, curve := 0, workLight := false,
           reportUnmatched := false, replyKind := .trigger, axis := 0, ceiling := 0 } ∧
       t.slot l k = t.loadedSlot l k ∧ ((t.lines[l]).prev)[k] = none ∧ ((t.lines[l]).sent)[k] = none ∧
       (t.parks[l])[k] = none ∧
       t.fade l k =
         { state := .atBase, start := 0, target := .base, t0 := 0, duration := 1, remaining := 0, deadline := none }) ∧
     (∀ (l : LineIx) (n : NodeIx), ((t.lines[l]).nodes)[n] = { presence := .unknown, misses := 0 }) ∧
     (∀ b : BayIx, t.bays[b] =
       { state := .dark, entryTime := 0, occupancy := 0, intrusions := [],
         causes := { sensor := false, command := false, fault := false }, linger := none, holdRelease := none,
         underflow := 0, overflow := 0, ignored := 0, lingerTime := 10000, holdReleaseTime := 5000, attractMaster := 255,
         liveMaster := 255, audioMaster := 255, workFloor := 0, attractScene := none }) ∧
     (∀ w : WatchIx, (t.watch[w]).uni = none ∧ (∀ c : Fin 256, (t.watch[w]).image[c] = 0) ∧
       (t.watch[w]).received = false ∧ (t.watch[w]).updated = 0 ∧ (t.watch[w]).stale = false ∧
       (t.watch[w]).deadline = none) ∧
     (∀ (c : CurveIx) (i : Fin 17), (t.curves[c])[i] = min (4096 * i.val) 65535 ∧
       ∀ l : LineIx, ((t.curvesInForce[l])[c])[i] = min (4096 * i.val) 65535) ∧
     ∀ g : GroupIx, t.groups[g] = { members := [], owner := none }) ∧
  ∀ (a : StationIx) (s : State), ∃ t, exec (.coldReset a) s = .next t ∧
    (∀ e : TrigIx, t.triggers[e] =
      { action := .none 0, line := 0, slot := 0, bit := 0, edge := .rise, allowance := 1, report := false, credit := 1,
        dropped := 0, active := false }) ∧
    t.throttle = 2000 ∧
    (∀ c : SceneIx, t.scenes[c] =
      { bay := 0, priority := 0,
        flags :=
          { attract := false, live := false, safety := false, restart := false, holdAbort := false, report := false },
        release := 0, cooldown := 0, waitLimit := 0, first := 0, groups := [], zones := [], axes := [], ready := 0,
        cooling := false }) ∧
    (∀ i : InstIx, t.insts[i] =
      { state := .free, scene := 0, origin := .command, start := 0, cue := 0, due := none, wait := none,
        loopOwner := none, loopCount := 0, remDue := none, remWait := none }) ∧
    t.waitList = [] ∧ (∀ k : CueIx, t.cues[k] = { delay := 0, kind := .endScene }) ∧
    (∀ z : ZoneIx, t.zones[z] =
      { bay := 0, line := 0, node := 0, bedSlot := none, duckLevel := 0, duckTime := 250, restoreTime := 1000, pace := 0,
        limit := 64, pauseLevel := 48, resumeLevel := 16, ambientEnable := false, owner := none, clip := 0,
        clipState := .none, usage := 0, paused := false, voiceActive := false, voiceNext := none, bedNext := none,
        drops := 0, announceQ := [], sceneQ := [], ambientQ := [] }) ∧
    t.pool.free = 1536 ∧ (∀ l : LineIx, t.pool.lastServed[l] = none) ∧ t.pool.unknownZone = 0 ∧
    ∀ x : AxisIx, t.axes[x] =
      { bay := 0, setpoint := (0, 0), feedback := none, kl := 0, sl := 0, su := 65535, ku := 65535, maxSpeed := 1000,
        slowSpeed := 250, defaultSpeed := 500, tolerance := 0, faultCount := 3, cbs := 0, ebs := 0, rate := 0,
        holdBay := false, state := .unsynced, pos := 0, lastSent := none, moveFrom := 0, moveTo := 0, speed := 0,
        moveStart := 0, duration := 0, deadline := none, c := 0, e := 0, residue := 0, refilled := 0,
        refillDeadline := 600000, following := 0, clamps := 0, colour := none, owner := none }

/-- RESET PART: every block's warm reset, what it keeps and what it sets, then the STARTED report and the OK answer (R18,
R37, R55, R75, R90, R104, R126, R148, R168, R186, R195). With operand bytes it is BAD_FRAME (R11). That a move the reset
froze leaves its from, to, speed, start and duration fields as they were is the model's choice (log entry 20). -/
def Obligations.WarmReset : Prop :=
  (∀ (tag b : Byte) (ops : List Byte) (s : State), atHead { tag := tag, code := 0x03, ops := b :: ops } s = true →
    exec (.resetPart tag (b :: ops)) s = .next (replied tag 0x03 (.bad .badFrame) s)) ∧
  ∀ (tag : Byte) (s : State), atHead { tag := tag, code := 0x03, ops := [] } s = true →
    ∃ t, exec (.resetPart tag []) s =
        .next (replied tag 0x03 .ok
          (offerReport (.started false s.now s.checks.mode s.checks.mask (s.trunk.station == 63)) t)) ∧
      s.sameBut t
        [.trunk, .lines, .bays, .fades, .groups, .triggers, .throttle, .scenes, .insts, .waitList, .zones, .pool, .axes] ∧
      t.trunk = { s.trunk with lastServed := .relay } ∧
      (∀ l : LineIx, t.lines[l] = { s.lines[l] with block := [] }) ∧
      (∀ b : BayIx, t.bays[b] =
        { s.bays[b] with
          state := .dark, entryTime := s.now, linger := none, holdRelease := none,
          causes := { sensor := !((s.bays[b]).intrusions.isEmpty), command := false, fault := false } }) ∧
      (∀ (l : LineIx) (k : SlotIx), t.fade l k = { s.fade l k with state := .atBase, deadline := none }) ∧
      (∀ g : GroupIx, t.groups[g] = { s.groups[g] with owner := none }) ∧
      (∀ e : TrigIx, t.triggers[e] = { s.triggers[e] with credit := (s.triggers[e]).allowance }) ∧
      t.throttle = later s.now s.params.throttle ∧
      (∀ c : SceneIx, t.scenes[c] = { s.scenes[c] with cooling := false }) ∧
      (∀ i : InstIx, t.insts[i] =
        { s.insts[i] with
          state := .free, due := none, wait := none, loopOwner := none, loopCount := 0, remDue := none,
          remWait := none }) ∧
      t.waitList = [] ∧
      (∀ z : ZoneIx, t.zones[z] =
        { s.zones[z] with
          owner := none, clipState := .none, usage := 0, paused := false, voiceActive := false, voiceNext := none,
          bedNext := none, announceQ := [], sceneQ := [], ambientQ := [] }) ∧
      t.pool.free = 1536 ∧ t.pool.unknownZone = s.pool.unknownZone ∧ (∀ l : LineIx, t.pool.lastServed[l] = none) ∧
      ∀ a : AxisIx, t.axes[a] =
        if (s.axes[a]).state = .moving then
          { s.axes[a] with state := .idle, pos := (s.axes[a]).position s.now, deadline := none, owner := none }
        else { s.axes[a] with owner := none }

/-! ## The trunk -/

/-- The link events and the ends of transmissions (R1, R4, R6): a link-down loses the frame being sent, and on port B the
whole queue; a link-up and a finished transmission on port A have the arbiter choose. The arbiter starts nothing while
port A is DOWN or busy or both queues are empty, and else it takes the head of the queue other than last served, or of the
one that holds a frame (R6). An own frame leaves as an ANSWER or a REPORT of this station: its kind, the station, the length
of its payload, the payload and the check word over all of these (12.1), its payload spelt field by field (12.4, R11, R52,
R102, R124, R146, R157, R190, R191). The orders of lists that stand in a sentence or a table are log entry 9, the class byte of a
POOL check log entry 42 and the coding of lone flags log entry 45. -/
def Obligations.PortsAndArbiter : Prop :=
  (∀ s : State,
     (s.trunk.linkA = .up → exec (.linkDown .a) s =
       .next { s with trunk := { s.trunk with linkA := .down, sendingA := none } }) ∧
     (s.trunk.linkB = .up → exec (.linkDown .b) s =
       .next { s with trunk := { s.trunk with linkB := .down, bOut := [] } }) ∧
     (s.trunk.linkA = .down → exec (.linkUp .a) s =
       .next { s with trunk := Trunk.arbitrate { s.trunk with linkA := .up } }) ∧
     (s.trunk.linkB = .down → exec (.linkUp .b) s = .next { s with trunk := { s.trunk with linkB := .up } }) ∧
     (∀ f rest, s.trunk.bOut = f :: rest → exec .portBTransmissionDone s =
       .next { s with trunk := { s.trunk with bOut := rest } }) ∧
     (s.trunk.sendingA.isSome = true → exec .portATransmissionDone s =
       .next { s with trunk := Trunk.arbitrate { s.trunk with sendingA := none } })) ∧
  (∀ t : Trunk,
    (t.linkA = .down ∨ t.sendingA.isSome = true ∨ (t.own = [] ∧ t.relay = []) → t.arbitrate = t) ∧
    (t.linkA = .up → t.sendingA = none → ∀ f rest, t.own = f :: rest → t.relay = [] ∨ t.lastServed = .relay →
      t.arbitrate =
        { t with own := rest, sendingA := some (f.frame (BitVec.ofNat 8 t.station.val)), lastServed := .own }) ∧
    (t.linkA = .up → t.sendingA = none → ∀ f rest, t.relay = f :: rest → t.own = [] ∨ t.lastServed = .own →
      t.arbitrate = { t with relay := rest, sendingA := some f, lastServed := .relay })) ∧
  (∀ (station : Byte) (own : OwnFrame),
    let kind : Byte := match own with | .answer _ => 0x09 | .report _ => 0x08
    let edges : List (Option Edge) := [some .rise, some .fall]
    let actions : List (Option ActionKind) :=
      [some .none, some .start, some .stop, some .cue, some .enter, some .leave, some .intrusion]
    let refusals : List RefuseReason :=
      [.bayClosed, .bayState, .cooldown, .alreadyRunning, .alreadyWaiting, .conflict, .noInstance, .waitFull,
        .notDefined]
    let payload : List Byte :=
      match own with
      | .answer a =>
        [a.tag, a.code] ++ spell [placeField [.ok, .badFrame, .badTable, .badIndex, .inUse, .refused, .busy] a.status] ++
          (match a.detail with
            | .none => []
            | .inst i => spell [(1, i.val)]
            | .waiting => [0xFE]
            | .stopped acted => [if acted then 0x00 else 0xFF]
            | .bayState b => spell [placeField bayStates b]
            | .read table line first n entries => [table, line] ++ spell [(2, first), (2, n)] ++ entries
            | .skipped first n r => spell [(2, first), (2, n), placeField [.inUse, .badValue] r]
            | .refused r => spell [placeField refusals r])
      | .report r =>
        let common (code : Nat) : List (Nat × Nat) := [(1, code), (1, r.lost), (4, r.showTime.toNat)]
        spell
          (match r.body with
            | .trigger e l k b g a o =>
              common 1 ++
                [optField 1 (e.map (·.val)), (1, l.val), (1, k.val), (1, b.val),
                  (if g = none then (1, 255) else placeField edges g),
                  (if a = none then (1, 255) else placeField actions a)] ++
                (match o with
                  | .waitMet n => [(1, 0), (1, n)]
                  | _ => [placeField [.waitMet 0, .startSent, .stopSent, .noAction, .counted, .active, .inactive, .unmatched] o])
            | .scene c i origin e =>
              common 2 ++ [(1, c.val), optField 1 (i.map (·.val)), placeField origins origin] ++
                (match e with
                  | .admitted => [(1, 0)]
                  | .waiting => [(1, 1)]
                  | .refused x => [(1, 2), placeField refusals x]
                  | .restarted => [(1, 3)]
                  | .ended x p =>
                    [(1, 4), placeField [.endCue, .aborted, .cue, .fault, .stopped, .preempted, .bay] x] ++
                      (match p with | some q => [(1, q.val)] | none => [])
                  | .waitRemoved x => [(1, 5), placeField [.expired, .bayClosed, .bayState, .stopped] x]
                  | .moveDenied k a x =>
                    [(1, 6), (2, k.val), (1, a.val), placeField [.unsynced, .stopped, .bayState, .budget] x]
                  | .waitTimeout k w => [(1, 7), (2, k.val), placeField [.trigger, .motion, .clip] w]
                  | .suspended => [(1, 8)]
                  | .resumed => [(1, 9)])
            | .bay b old new cause causes occupancy intrusions =>
              common 3 ++
                [(1, b.val), placeField bayStates old, placeField bayStates new,
                  placeField
                    [.opened, .closed, .serviced, .held, .released, .entered, .linger, .sensor, .sensorClear, .fault]
                    cause,
                  causesField causes, (1, occupancy), (1, intrusions)]
            | .pace z slow usage free =>
              common 4 ++ [(1, z.val), placeField [true, false] slow, (2, usage), (2, free)]
            | .check c n =>
              common 5 ++ classFields c.object ++ objectFields c.object ++
                [(4, c.time.toNat), optField 1 (c.inst.map (·.val)), (1, n)]
            | .started cold time mode mask listener =>
              common 6 ++
                [placeField [true, false] cold, (4, time.toNat), placeField [.quiet, .fatal, .severe, .all] mode,
                  maskField mask, flagField listener])
    let head : List Byte := [kind, station] ++ spell [(2, payload.length)]
    own.frame station = { kind := kind, station := station, payload := payload, check := crc16 (head ++ payload) } ∧
    (own.frame station).bytes = head ++ payload ++ spell [(2, (crc16 (head ++ payload)).toNat)]) ∧
  crc16 [] = 0xFFFF ∧
  ∀ (bytes : List Byte) (b : Byte),
    let bit (r : BitVec 16) : BitVec 16 := (r <<< 1) ^^^ (if r.msb then 0x1021 else 0)
    crc16 (bytes ++ [b]) =
      bit (bit (bit (bit (bit (bit (bit (bit (crc16 bytes ^^^ (b.setWidth 16 <<< 8)))))))))

/-- A good LEVEL frame on an UP port A: the entry that watches its universe captures the whole image, no other entry
changes, and the frame is relayed, or dropped, counted and checked when the B-out queue is full, and taken all the same
(R3, R4, R58). A good CLOCK frame on an UP port A: show time becomes the carried value at that event, whatever it is, and the frame
is relayed as any other (R3, R4, R8); a CLOCK frame that is dropped is checked before or after it sets show time (log
entry 3). -/
def Obligations.LevelAndClockFrames : Prop :=
  let dropped (v : State) : State :=
    raiseCheck (.queue .bOut) none
      { v with trunk := { v.trunk with downDrops := min (v.trunk.downDrops + 1) 65535 } }
  (∀ (f : Frame) (s : State), s.trunk.linkA = .up → f.good .a = true → f.kind = kindLevel →
     ∃ t, exec (.levelFrame f) s = .next t ∧ s.sameBut t [.watch, .trunk, .checks, .choices] ∧
       (∀ w : WatchIx,
         let uni := be2 (f.payload.getD 0 0) (f.payload.getD 1 0)
         (((s.watch[w]).uni.map (·.val) ≠ some uni) → t.watch[w] = s.watch[w]) ∧
         (((s.watch[w]).uni.map (·.val) = some uni ∧
             ∀ x : WatchIx, (s.watch[x]).uni.map (·.val) = some uni → x = w) →
           (∀ c : Fin 256, (t.watch[w]).image[c] = f.payload.getD (2 + c.val) 0) ∧
           t.watch[w] =
             { s.watch[w] with
               image := (t.watch[w]).image, received := true, updated := s.now, stale := false,
               deadline := some (later s.now s.params.stale) })) ∧
       (s.trunk.linkB = .down → t.trunk = s.trunk ∧ t.checks = s.checks) ∧
       (s.trunk.linkB = .up → s.trunk.bOut.length < 16 →
         t.trunk = { s.trunk with bOut := s.trunk.bOut ++ [f] } ∧ t.checks = s.checks) ∧
       (s.trunk.linkB = .up → 16 ≤ s.trunk.bOut.length →
         t.trunk = (dropped s).trunk ∧ t.checks = (dropped s).checks ∧
         t.trunk.bOut = s.trunk.bOut ∧ t.trunk.downDrops = min (s.trunk.downDrops + 1) 65535)) ∧
  ∀ (f : Frame) (s : State), s.trunk.linkA = .up → f.good .a = true → f.kind = kindClock →
    ∃ t, exec (.clockFrame f) s = .next t ∧ s.sameBut t [.trunk, .checks, .choices] ∧
      t.showTime = BitVec.ofNat 32 (num4 f.payload 0) ∧ t.now = s.now ∧
      (s.trunk.linkB = .down → t.trunk = { s.trunk with offset := t.trunk.offset } ∧ t.checks = s.checks) ∧
      (s.trunk.linkB = .up → s.trunk.bOut.length < 16 →
        t.trunk = { s.trunk with offset := t.trunk.offset, bOut := s.trunk.bOut ++ [f] } ∧ t.checks = s.checks) ∧
      (s.trunk.linkB = .up → 16 ≤ s.trunk.bOut.length →
        (let set (v : State) : State :=
           { v with trunk := { v.trunk with offset := BitVec.ofNat 32 (num4 f.payload 0) - v.now } }
         inSomeOrder dropped set s t) ∧
        t.trunk.bOut = s.trunk.bOut ∧ t.trunk.downDrops = min (s.trunk.downDrops + 1) 65535)

/-- A good COMMAND frame for this station or for every station: queued while 8 places allow it, else answered BUSY, or its
BUSY answer discarded and counted (R3, R9). A broadcast is relayed as well, and one that finds the B-out queue full is
dropped downstream, counted and checked, and taken all the same, in either order (R4; log entry 3). A good BLOCK or COMMAND
frame for another station is relayed and not taken: discarded while port B is DOWN, placed last in the B-out queue while it
has room, else dropped, counted and checked (R1, R3, R4). -/
def Obligations.CommandFrameTakenOrRelayed : Prop :=
  let dropped (v : State) : State :=
    raiseCheck (.queue .bOut) none
      { v with trunk := { v.trunk with downDrops := min (v.trunk.downDrops + 1) 65535 } }
  (∀ (f : Frame) (s : State), s.trunk.linkA = .up → f.good .a = true → f.kind = kindCommand →
     (f.dest = s.trunk.station ∨ f.dest = 63) →
     let tag := f.payload.getD 0 0
     let code := f.payload.getD 1 0
     let taken (u : State) : State :=
       if u.cmd.queue.length < 8 then
         { u with
           cmd := { u.cmd with queue := u.cmd.queue ++ [{ tag := tag, code := code, ops := f.payload.drop 2 }] } }
       else if u.trunk.own.length < 32 then
         { u with
           trunk := Trunk.arbitrate
             { u.trunk with
               own := u.trunk.own ++ [.answer { tag := tag, code := code, status := .busy, detail := .none }] } }
       else { u with trunk := { u.trunk with busyDiscards := min (u.trunk.busyDiscards + 1) 65535 } }
     ((f.dest = 63 → s.trunk.linkB = .up → s.trunk.bOut.length < 16) →
       exec (.commandFrame f) s = .next
         (taken (if f.dest = 63 ∧ s.trunk.linkB = .up then
            { s with trunk := { s.trunk with bOut := s.trunk.bOut ++ [f] } } else s))) ∧
     (f.dest = 63 → s.trunk.linkB = .up → 16 ≤ s.trunk.bOut.length →
       ∃ t, exec (.commandFrame f) s = .next t ∧ inSomeOrder dropped taken s t)) ∧
  ∀ (f : Frame) (s : State), s.trunk.linkA = .up → f.good .a = true → f.dest ≠ s.trunk.station → f.dest ≠ 63 →
    ∃ t,
      (f.kind = kindBlock → exec (.blockFrame f) s = .next t) ∧
      (f.kind = kindCommand → exec (.commandFrame f) s = .next t) ∧
      t =
        if s.trunk.linkB = .down then s
        else if s.trunk.bOut.length < 16 then { s with trunk := { s.trunk with bOut := s.trunk.bOut ++ [f] } }
        else dropped s

/-- A chunk that fails a test of R153 to R155 is not stored: an unknown zone and a bad class are counted and checked, a
chunk for a DARK bay goes without a trace, and a chunk that fails a later test is counted for its zone and checked with
the reason of the first test it fails. That the check's object keeps a class code that names no class as it came is the
model's choice (log entry 42). -/
def Obligations.BlockDropped : Prop :=
  ∀ (f : Frame) (s : State), s.trunk.linkA = .up → f.good .a = true → f.kind = kindBlock →
    f.dest = s.trunk.station →
    let p := f.payload
    let code := p.getD 1 0
    let drop (z : ZoneIx) (r : PoolReason) : State :=
      raiseCheck (.chunk z.val code (payloadClip p) (payloadSeq p) r) none
        (s.modZone z (fun q => { q with drops := min (q.drops + 1) 65535 }))
    (23 < (p.getD 0 0).toNat → exec (.blockFrame f) s = .next
      (raiseCheck (.chunk (p.getD 0 0).toNat code (payloadClip p) (payloadSeq p) .unknownZone) none
        { s with pool := { s.pool with unknownZone := min (s.pool.unknownZone + 1) 65535 } })) ∧
    (∀ z : ZoneIx, (p.getD 0 0).toNat = z.val →
      (2 < code.toNat → exec (.blockFrame f) s = .next (drop z .badClass)) ∧
      (∀ cls, classOf code = some cls →
        (s.bayState (s.zones[z]).bay = .dark → exec (.blockFrame f) s = .next s) ∧
        (s.bayState (s.zones[z]).bay ≠ .dark →
          let q := s.zones[z]
          let n := ((p.drop 8).length + 95) / 96
          (cls = .announce → s.pool.free < n → exec (.blockFrame f) s = .next (drop z .poolFull)) ∧
          (cls = .scene →
            (q.owner = none ∨ (q.clipState ≠ .expecting ∧ q.clipState ≠ .playing) ∨ payloadClip p ≠ q.clip →
              exec (.blockFrame f) s = .next (drop z .unclaimed)) ∧
            (q.owner.isSome = true → q.clipState = .expecting ∨ q.clipState = .playing → payloadClip p = q.clip →
              (s.pool.free < n + s.params.sceneReserve → exec (.blockFrame f) s = .next (drop z .reserve)) ∧
              (n + s.params.sceneReserve ≤ s.pool.free → q.limit < q.usage + n →
                exec (.blockFrame f) s = .next (drop z .zoneLimit)))) ∧
          (cls = .ambient →
            (q.ambientEnable = false → exec (.blockFrame f) s = .next (drop z .ambientOff)) ∧
            (q.ambientEnable = true →
              (s.pool.free < n + s.params.ambientReserve → exec (.blockFrame f) s = .next (drop z .reserve)) ∧
              (n + s.params.ambientReserve ≤ s.pool.free → q.limit < q.usage + n →
                exec (.blockFrame f) s = .next (drop z .zoneLimit)))))))

/-- A chunk that passes every test is stored: its blocks leave the pool and count as the zone's usage, it joins the tail
of its class's queue, and a usage above the pause level sets the pause flag, with PACE SLOW (R149, R152, R156). -/
def Obligations.BlockStored : Prop :=
  ∀ (f : Frame) (s : State) (z : ZoneIx) (cls : ChunkClass), s.trunk.linkA = .up → f.good .a = true →
    f.kind = kindBlock → f.dest = s.trunk.station → (f.payload.getD 0 0).toNat = z.val →
    classOf (f.payload.getD 1 0) = some cls → s.bayState (s.zones[z]).bay ≠ .dark →
    let p := f.payload
    let q := s.zones[z]
    let n := ((p.drop 8).length + 95) / 96
    (cls = .announce → n ≤ s.pool.free) →
    (cls = .scene → q.owner.isSome = true ∧ (q.clipState = .expecting ∨ q.clipState = .playing) ∧
      payloadClip p = q.clip ∧ n + s.params.sceneReserve ≤ s.pool.free ∧ q.usage + n ≤ q.limit) →
    (cls = .ambient → q.ambientEnable = true ∧ n + s.params.ambientReserve ≤ s.pool.free ∧ q.usage + n ≤ q.limit) →
    let c : Chunk :=
      { cls := cls, clip := payloadClip p, seq := payloadSeq p, last := payloadLast p, audio := p.drop 8,
        arrival := s.now }
    let stored : State :=
      { s with
        pool := { s.pool with free := s.pool.free - n }
        zones := upd s.zones z (fun r =>
          { r.setQueue cls (r.queue cls ++ [c]) with
            usage := r.usage + n, paused := r.paused || decide (r.pauseLevel < r.usage + n) }) }
    exec (.blockFrame f) s = .next
      (if q.pauseLevel < q.usage + n ∧ q.paused = false then
        offerReport (.pace z true (q.usage + n) (s.pool.free - n)) stored
      else stored)

/-- A good frame on an UP port B joins the A-out relay queue, or is dropped, counted and checked when 16 frames stand
there (R5); a malformed frame on an UP port is discarded, counted and checked with its port (R2). That a row with a frame,
malformed or not, at a DOWN port, which receives none (R1), changes nothing is the model's choice (log entry 4). -/
def Obligations.ReturnAndMalformed : Prop :=
  ∀ (f : Frame) (p : Port) (s : State),
    (s.trunk.linkB = .up → f.good .b = true → exec (.returnFrame f) s = .next
      (if s.trunk.relay.length < 16 then
        { s with trunk := Trunk.arbitrate { s.trunk with relay := s.trunk.relay ++ [f] } }
      else
        raiseCheck (.queue .relay) none
          { s with trunk := { s.trunk with returnDrops := min (s.trunk.returnDrops + 1) 65535 } })) ∧
    (s.trunk.link p = .up → f.good p = false → exec (.malformedFrameReceived p f) s = .next
      (raiseCheck (.port p) none
        { s with trunk := { s.trunk with linkErrors := min (s.trunk.linkErrors + 1) 65535 } })) ∧
    (s.trunk.link p = .down → exec (.malformedFrameReceived p f) s = .next s) ∧
    (s.trunk.linkA = .down → exec (.levelFrame f) s = .next s ∧ exec (.clockFrame f) s = .next s ∧
      exec (.blockFrame f) s = .next s ∧ exec (.commandFrame f) s = .next s) ∧
    (s.trunk.linkB = .down → exec (.returnFrame f) s = .next s)

/-! ## Checks, reports and answers -/

/-- Raising a check: its class is flagged and counted, the context holds the most recent check of the highest severity,
its CHECK report is offered when the mode covers its severity, and a FATAL check whose report is placed lowers SEVERE and
ALL to FATAL (R187, R188, R189, R190). -/
def Obligations.CheckRaised : Prop :=
  ∀ (o : CheckObject) (i : Option InstIx) (s : State),
    let t := raiseCheck o i s
    let c : Check := { object := o, time := s.now, showTime := s.showTime, inst := i }
    let covered := s.checks.mode.covers c.severity && s.checks.mask.check
    let room := decide (s.trunk.own.length < 32)
    s.sameBut t [.trunk, .checks] ∧
    (∀ k : Fin 8, t.checks.classes[k] =
      if k = o.cls.ix then { seen := true, count := min ((s.checks.classes[k]).count + 1) 255 } else s.checks.classes[k]) ∧
    (s.checks.context = none → t.checks.context = some c) ∧
    (∀ old, s.checks.context = some old →
      t.checks.context = if old.severity.rank ≤ c.severity.rank then some c else some old) ∧
    t.checks.mask = s.checks.mask ∧
    t.checks.mode =
      (if c.severity = .fatal ∧ (s.checks.mode = .severe ∨ s.checks.mode = .all) ∧ covered = true ∧ room = true then .fatal
      else s.checks.mode) ∧
    (covered = false → t.trunk = s.trunk ∧ t.checks.lost = s.checks.lost) ∧
    (covered = true → room = false → t.trunk = s.trunk ∧ t.checks.lost = min (s.checks.lost + 1) 255) ∧
    (covered = true → room = true → t.checks.lost = 0 ∧
      t.trunk = Trunk.arbitrate
        { s.trunk with
          own := s.trunk.own ++ [.report
            { showTime := s.showTime, lost := s.checks.lost,
              body := .check c (min ((s.checks.classes[o.cls.ix]).count + 1) 255) }] })

/-- Offering the answer of a command: with room it joins the own queue and its command leaves the command queue; else it
waits and the command stays (R10). A waiting answer for which there is room is placed, and its command leaves. A command
with an unknown code is answered BAD_FRAME (R11). -/
def Obligations.AnswerOffered : Prop :=
  ∀ (a : Answer) (s : State),
    offerAnswer a s =
      (if s.trunk.own.length < 32 then
        { s with
          trunk := Trunk.arbitrate { s.trunk with own := s.trunk.own ++ [.answer a] }
          cmd := { s.cmd with queue := s.cmd.queue.tail } }
      else { s with cmd := { s.cmd with waiting := some a } }) ∧
    (s.cmd.waiting = some a → s.trunk.own.length < 32 → exec .waitingAnswerPlaced s = .next
      { s with
        trunk := Trunk.arbitrate { s.trunk with own := s.trunk.own ++ [.answer a] }
        cmd := { queue := s.cmd.queue.tail, waiting := none } }) ∧
    (∀ (tag code : Byte) (ops : List Byte), commandInstr tag code ops = .unknownCommand tag code ops →
      atHead { tag := tag, code := code, ops := ops } s = true →
      exec (.unknownCommand tag code ops) s = .next (replied tag code (.bad .badFrame) s))

/-- The operand tests that come before a command's own: the wrong number of operand bytes is BAD_FRAME and an index beyond
its table is BAD_INDEX, and nothing else is done (R11, R20, R21, 3.5, R122, R123, R184). -/
def Obligations.OperandTests : Prop :=
  ∀ (tag : Byte) (ops : List Byte) (s : State) (row : Byte → List Byte → Instr) (code : Byte) (n : Nat),
    (row, code, n) ∈
      ([(.lineOn, 0x10, 6), (.lineOff, 0x11, 6), (.openBay, 0x20, 16), (.closeBay, 0x21, 16), (.holdBay, 0x22, 16),
        (.releaseBay, 0x23, 16), (.serviceBay, 0x24, 16), (.startScene, 0x40, 96), (.stopScene, 0x41, 96),
        (.resetAxis, 0x50, 24)] : List ((Byte → List Byte → Instr) × Byte × Nat)) →
    atHead { tag := tag, code := code, ops := ops } s = true →
    (ops.length ≠ 1 → exec (row tag ops) s = .next (replied tag code (.bad .badFrame) s)) ∧
    (∀ b : Byte, ops = [b] → n ≤ b.toNat → exec (row tag ops) s = .next (replied tag code (.bad .badIndex) s))

/-! ## LOAD and READ -/

/-- How a whole LOAD is judged before any entry is written: its table, its frame, its indexes; and a LOAD of no entry that
passes is answered OK and writes nothing (R11, R13; that a LOAD too short for its header is BAD_FRAME whatever its table
is log entry 16). And which entries of each table its fields can represent, byte by byte (R13, R91, R105, R129, R150,
R169, layout 12.3; that claim bytes beyond a count are ignored is log entry 18). A LOAD that passes writes its entries one
after another in ascending index order, each judged in the state that the entries before it left, and is answered OK, or
IN_USE with the first skipped index, the number skipped and the reason of the first (R14); what `writeEntry` makes of one
entry, in any state, the next statements say table by table. -/
def Obligations.LoadJudged : Prop :=
  (∀ e : List Byte,
    let b (k : Nat) : Nat := num1 e k
    let pair (k : Nat) : Prop := b k ≤ 5 ∧ b (k + 1) ≤ 47
    let claims (k limit top : Nat) : Prop := b k ≤ limit ∧ ∀ j : Nat, j < b k → b (k + 1 + j) ≤ top
    let timed (top : Nat) : Prop := b 3 ≤ top ∧ b 6 ≤ 1
    (e.length = 8 → entryFits 0 e = true) ∧
    (e.length = 2 → (entryFits 1 e = true ↔ num2 e 0 ≤ 1023 ∨ num2 e 0 = 65535)) ∧
    (e.length = 11 → (entryFits 2 e = true ↔
      b 0 ≤ 4 ∧ b 1 ≤ 15 ∧ b 2 ≤ 15 ∧ (b 3 ≤ 7 ∨ b 3 = 255) ∧ b 5 ≤ 1 ∧ b 6 ≤ 7 ∧ b 8 ≤ 23)) ∧
    (e.length = 9 → entryFits 3 e = true) ∧ (e.length = 34 → entryFits 4 e = true) ∧
    (e.length = 33 → (entryFits 5 e = true ↔ b 0 ≤ 16 ∧ ∀ j : Nat, j < b 0 → pair (1 + 2 * j))) ∧
    (e.length = 12 → (entryFits 6 e = true ↔ b 11 ≤ 95 ∨ b 11 = 255)) ∧
    (e.length = 8 → (entryFits 7 e = true ↔
      b 0 ≤ 6 ∧ b 1 ≤ 5 ∧ b 2 ≤ 47 ∧ b 3 ≤ 15 ∧ b 4 ≤ 1 ∧ (b 0 = 1 ∨ b 0 = 2 → b 5 ≤ 95) ∧ (4 ≤ b 0 → b 5 ≤ 15))) ∧
    (e.length = 34 → (entryFits 8 e = true ↔
      b 0 ≤ 15 ∧ b 1 ≤ 7 ∧ num2 e 15 ≤ 2047 ∧ claims 17 8 63 ∧ claims 26 2 23 ∧ claims 29 4 23)) ∧
    (e.length = 10 → (entryFits 9 e = true ↔
      (b 2 = 1 → b 3 ≤ 63 ∧ b 4 ≤ 1) ∧ (b 2 = 2 → b 3 ≤ 23 ∧ num2 e 4 ≤ 4095) ∧
        (b 2 = 3 → b 3 ≤ 23 ∧ num2 e 6 ≤ 16383) ∧ (b 2 = 4 → timed 127) ∧ (b 2 = 5 ∨ b 2 = 6 → timed 23) ∧
        (b 2 = 7 → num2 e 3 ≤ 4095))) ∧
    (e.length = 24 → (entryFits 10 e = true ↔ b 0 ≤ 15 ∧ b 1 ≤ 5 ∧ b 2 ≤ 15 ∧ (pair 3 ∨ b 3 = 255))) ∧
    (e.length = 29 → (entryFits 11 e = true ↔ b 0 ≤ 15 ∧ pair 1 ∧ (pair 3 ∨ b 3 = 255)))) ∧
  ∀ (tag : Byte) (ops : List Byte) (s : State),
    atHead { tag := tag, code := 0x01, ops := ops } s = true →
    let run := exec (loadInstr tag ops) s
    (parseHeader ops = none → run = .next (replied tag 0x01 (.bad .badFrame) s)) ∧
    ∀ h, parseHeader ops = some h →
      let n := h.table.toNat
      (11 < n ∨ (n = 2 ∧ 5 < h.line.toNat) → run = .next (replied tag 0x01 (.bad .badTable) s)) ∧
      (n ≤ 11 → (n = 2 → h.line.toNat ≤ 5) →
        (h.rest.length ≠ h.count * entrySize n ∨ entriesFit n h.count h.rest = false →
          run = .next (replied tag 0x01 (.bad .badFrame) s)) ∧
        (h.rest.length = h.count * entrySize n → entriesFit n h.count h.rest = true →
          (tableLength n < h.first + h.count → run = .next (replied tag 0x01 (.bad .badIndex) s)) ∧
          (h.first + h.count ≤ tableLength n →
            let entry (j : Nat) : List Byte := (h.rest.drop (j * entrySize n)).take (entrySize n)
            let next (r : State × List (Nat × SkipReason)) (j : Nat) : State × List (Nat × SkipReason) :=
              match writeEntry n h.line (h.first + j) (entry j) r.1 with
              | .ok t => (t, r.2)
              | .error x => (r.1, r.2 ++ [(h.first + j, x)])
            let r := (List.range h.count).foldl next (s, [])
            run = .next (replied tag 0x01
              (match r.2 with
                | [] => .ok
                | (k, x) :: _ => { status := .inUse, detail := .skipped k r.2.length x }) r.1)) ∧
          (h.first + h.count ≤ tableLength n → h.count = 0 → run = .next (replied tag 0x01 .ok s)))) ∧
      (loadInstr tag ops = .loadUnknownTable tag ops →
        exec (.loadUnknownTable tag ops) s = .next (replied tag 0x01 (.bad .badTable) s))

/-- LOAD PARAMS writes its four clamped numbers (R14). LOAD WATCH of one entry: a universe that another entry watches is
skipped, the universe it watches already changes nothing, and any other begins the entry anew (R56, R57). LOAD LINE writes
a line's clamped loaded parameters (R24). LOAD CURVE of any number of entries writes each of them but entry 0, which is
skipped and named in the answer (R14, R61). -/
def Obligations.LoadParamsWatchLineCurve : Prop :=
  (∀ (tag line : Byte) (s : State),
     (∀ e : List Byte, e.length = 8 →
       let ops := loadOne 0x00 line 0 e
       let put := writeEntry 0 line 0 e s
       (atHead { tag := tag, code := 0x01, ops := ops } s = true →
         exec (.loadParams tag ops) s = .next (loadAnswered tag 0 s put)) ∧
       put = .ok
         { s with
           params :=
             { throttle := max 250 (min 10000 (num2 e 0)), stale := max 100 (min 10000 (num2 e 2))
               ambientReserve := min 1536 (num2 e 4), sceneReserve := min 1536 (num2 e 6) } }) ∧
     ∀ (w : WatchIx) (u : Option UniverseIx),
       let e : List Byte := match u with | some x => toBytes2 x.val | none => [0xFF, 0xFF]
       let ops := loadOne 0x01 line w.val e
       let put := writeEntry 1 line w.val e s
       (atHead { tag := tag, code := 0x01, ops := ops } s = true →
         exec (.loadWatch tag ops) s = .next (loadAnswered tag w.val s put)) ∧
       (u.isSome = true → (∃ x : WatchIx, x ≠ w ∧ (s.watch[x]).uni = u) → put = .error .badValue) ∧
       (u = none ∨ (∀ x : WatchIx, x ≠ w → (s.watch[x]).uni ≠ u) →
         put = .ok { s with watch := upd s.watch w (fun r => if r.uni = u then r else { uni := u }) })) ∧
  ∀ (tag line : Byte) (s : State),
    (∀ (l : LineIx) (e : List Byte), e.length = 9 →
      let ops := loadOne 0x03 line l.val e
      let put := writeEntry 3 line l.val e s
      (atHead { tag := tag, code := 0x01, ops := ops } s = true →
        exec (.loadLine tag ops) s = .next (loadAnswered tag l.val s put)) ∧
      put = .ok
        { s with
          lines := upd s.lines l (fun x =>
            { x with
              loadedParams :=
                { interval := max 5 (min 250 (num2 e 0)), allowance := min 12 (num1 e 2)
                  mask := BitVec.ofNat 48 (num2 e 3 * 4294967296 + num4 e 5) } }) }) ∧
    (∀ (c : CurveIx) (e : List Byte), e.length = 34 →
      let put := writeEntry 4 line c.val e s
      (c = 0 → put = .error .badValue) ∧
      (c ≠ 0 → put = .ok { s with curves := s.curves.set c (tabulate 17 (fun i => num2 e (2 * i.val))) })) ∧
    ∀ (first n : Nat) (bytes : List Byte), first + n ≤ 8 → bytes.length = 34 * n →
      let ops := 0x04 :: line :: (toBytes2 first ++ (toBytes2 n ++ bytes))
      atHead { tag := tag, code := 0x01, ops := ops } s = true →
      ∃ t, exec (.loadCurve tag ops) s =
          .next (replied tag 0x01 (if first = 0 ∧ 0 < n then .skip 0 .badValue else .ok) t) ∧
        s.sameBut t [.curves] ∧
        (∀ c : CurveIx, c.val = 0 ∨ c.val < first ∨ first + n ≤ c.val → t.curves[c] = s.curves[c]) ∧
        ∀ c : CurveIx, 0 < c.val → first ≤ c.val → c.val < first + n →
          ∀ i : Fin 17, (t.curves[c])[i] = num2 (bytes.drop (34 * (c.val - first))) (2 * i.val)

/-- LOAD SLOT of one entry: a slot that no light group holds is written; a slot of a group is skipped while the group has
an owner, and when the entry's kind is not LEVEL. The fields are those of 12.3 (R22, R23). -/
def Obligations.LoadSlot : Prop :=
  ∀ (tag : Byte) (l : LineIx) (k : SlotIx) (e : List Byte) (r : SlotRec) (s : State), e.length = 11 →
    parseSlot e = some r →
    let ops := loadOne 0x02 (byte l.val) k.val e
    let put := writeEntry 2 (byte l.val) k.val e s
    (atHead { tag := tag, code := 0x01, ops := ops } s = true →
      exec (.loadSlot tag ops) s = .next (loadAnswered tag k.val s put)) ∧
    (r.kind.code = e.getD 0 0 ∧ r.node.val = num1 e 1 ∧ r.bay.val = num1 e 2 ∧
      (r.patch = none ↔ num1 e 3 = 255) ∧
      (∀ w c, r.patch = some (w, c) → w.val = num1 e 3 ∧ c.val = num1 e 4) ∧ r.merge.code = e.getD 5 0 ∧
      r.curve.val = num1 e 6 ∧ r.workLight = (e.getD 7 0).getLsbD 0 ∧ r.reportUnmatched = (e.getD 7 0).getLsbD 1 ∧
      (r.replyKind = .position ↔ (e.getD 7 0).getLsbD 2 = true) ∧ r.axis.val = num1 e 8 ∧ r.ceiling = num2 e 9) ∧
    ((∀ g : GroupIx, (l, k) ∉ (s.groups[g]).members) ∨
        (∃ g : GroupIx, (l, k) ∈ (s.groups[g]).members ∧ (s.groups[g]).owner = none ∧ r.kind = .level ∧
          ∀ h : GroupIx, (l, k) ∈ (s.groups[h]).members → h = g) →
      put = .ok { s with lines := upd s.lines l (fun x => { x with loaded := x.loaded.set k r }) }) ∧
    ∀ g : GroupIx, (l, k) ∈ (s.groups[g]).members → (∀ h : GroupIx, (l, k) ∈ (s.groups[h]).members → h = g) →
      ((s.groups[g]).owner.isSome = true → put = .error .inUse) ∧
      ((s.groups[g]).owner = none → r.kind ≠ .level → put = .error .badValue)

/-- LOAD GROUP of one entry: its members are the line and slot pairs the count byte announces; a group with an owner is
skipped, a member named twice, held by another group or not loaded as LEVEL is a bad value, and else the members are
written (R83). -/
def Obligations.LoadGroup : Prop :=
  ∀ (tag line : Byte) (g : GroupIx) (e : List Byte) (ms : List (LineIx × SlotIx)) (s : State), e.length = 33 →
    parseGroup e = some ms →
    let ops := loadOne 0x05 line g.val e
    let put := writeEntry 5 line g.val e s
    (atHead { tag := tag, code := 0x01, ops := ops } s = true →
      exec (.loadGroup tag ops) s = .next (loadAnswered tag g.val s put)) ∧
    ms.length = num1 e 0 ∧
    (∀ (j : Nat) (m : LineIx × SlotIx), ms[j]? = some m →
      m.1.val = num1 e (1 + 2 * j) ∧ m.2.val = num1 e (2 + 2 * j)) ∧
    let bad := ¬ ms.Nodup ∨ ∃ m ∈ ms,
      (∃ h : GroupIx, h ≠ g ∧ m ∈ (s.groups[h]).members) ∨ (s.loadedSlot m.1 m.2).kind ≠ .level
    ((s.groups[g]).owner.isSome = true → put = .error .inUse) ∧
    ((s.groups[g]).owner = none → bad → put = .error .badValue) ∧
    ((s.groups[g]).owner = none → ¬ bad → put = .ok { s with groups := upd s.groups g (fun r => { r with members := ms }) })

/-- LOAD BAY writes a bay's loaded fields, clamped, and no runtime field (R38). LOAD TRIGGER of one entry: the tests of
R91; an entry whose old and new actions are not INTRUSION is written with full credit and nothing dropped; an ACTIVE
INTRUSION entry rewritten to another action or bay hands its old bay an inactive notice, reported when it had the report
flag (the old entry's, log entry 27; notice and report in either order, log entry 3); and an entry that is INTRUSION
after the write is evaluated at once (R92, R102). -/
def Obligations.LoadBayTrigger : Prop :=
  ∀ (tag line : Byte) (s : State),
    (∀ (b : BayIx) (e : List Byte) (c : Option SceneIx), e.length = 12 →
      e.getD 11 0 = (match c with | some x => byte x.val | none => 0xFF) →
      let ops := loadOne 0x06 line b.val e
      let put := writeEntry 6 line b.val e s
      (atHead { tag := tag, code := 0x01, ops := ops } s = true →
        exec (.loadBay tag ops) s = .next (loadAnswered tag b.val s put)) ∧
      put = .ok
        { s with
          bays := upd s.bays b (fun r =>
            { r with
              lingerTime := min 600000 (num4 e 0), holdReleaseTime := max 1000 (min 60000 (num2 e 4))
              attractMaster := num1 e 6, liveMaster := num1 e 7, audioMaster := num1 e 8, workFloor := num2 e 9
              attractScene := c }) }) ∧
    ∀ (x : TrigIx) (e : List Byte) (r : TrigEntry), e.length = 8 → parseTrigger e = some r →
      let ops := loadOne 0x07 line x.val e
      let put := writeEntry 7 line x.val e s
      (atHead { tag := tag, code := 0x01, ops := ops } s = true →
        exec (.loadTrigger tag ops) s = .next (loadAnswered tag x.val s put)) ∧
      let bad := r.action.kind ≠ .none ∧
        (∃ y : TrigIx, y ≠ x ∧ (s.triggers[y]).action.kind ≠ .none ∧ (s.triggers[y]).line = r.line ∧
          (s.triggers[y]).slot = r.slot ∧ (s.triggers[y]).bit = r.bit) ∨
        ∃ b, r.action = .intrusion b ∧
          16 ≤ ((List.finRange 128).filter (fun y => y ≠ x ∧ (s.triggers[y]).action = .intrusion b)).length
      (r.action.kind.code = e.getD 0 0 ∧ r.action.operand = e.getD 5 0 ∧ r.line.val = num1 e 1 ∧ r.slot.val = num1 e 2 ∧
        r.bit.val = num1 e 3 ∧ r.edge.code = e.getD 4 0 ∧ r.allowance = max 1 (min 15 (num1 e 6)) ∧
        r.report = (e.getD 7 0).getLsbD 0) ∧
      (bad → put = .error .badValue) ∧
      (¬ bad → (s.triggers[x]).action.kind ≠ .intrusion → r.action.kind ≠ .intrusion →
        put = .ok
          { s with
            triggers := upd s.triggers x (fun _ =>
              { r with credit := r.allowance, dropped := 0, active := false }) }) ∧
      (¬ bad →
        let old := s.triggers[x]
        let stays := old.action.kind = .intrusion ∧ r.action = old.action
        let written (level : Bool) : State :=
          { s with
            triggers := upd s.triggers x (fun _ => { r with credit := r.allowance, dropped := 0, active := level }) }
        let report : State → State :=
          offerReport (.trigger (some x) old.line old.slot old.bit none (some .intrusion) .inactive)
        (stays → put = .ok (evaluate x (written old.active))) ∧
        (¬ stays → old.action.kind ≠ .intrusion ∨ old.active = false →
          put = .ok (evaluate x (written false))) ∧
        ∀ b : BayIx, old.action = .intrusion b → ¬ stays → old.active = true →
          ∃ u, put = .ok (evaluate x u) ∧
            (old.report = false → u = intrusionNotice x b false (written false)) ∧
            (old.report = true → inSomeOrder report (intrusionNotice x b false) (written false) u)) ∧
      (¬ bad → ∃ t, put = .ok t ∧
        (∀ y : TrigIx, y ≠ x → t.triggers[y] = s.triggers[y]) ∧
        t.triggers[x] =
          { r with
            credit := r.allowance, dropped := 0,
            active := if r.action.kind = .intrusion then inputActive s r else false })

/-- LOAD SCENE of one entry: the fields of 12.3 with the clamps of R105; a scene in use is skipped, a claim list that
names something twice is a bad value, and a write keeps the ready time and the cooling flag. LOAD CUE of any number of
entries writes each cue record, running lists or not, with its delay and with the kind and the operands that its bytes
spell (R105, R128, R129, 12.3). -/
def Obligations.LoadSceneCue : Prop :=
  ∀ (tag line : Byte) (s : State),
    (∀ (c : SceneIx) (e : List Byte) (r : Scene), e.length = 34 → parseScene e = some r →
      let ops := loadOne 0x08 line c.val e
      let put := writeEntry 8 line c.val e s
      (atHead { tag := tag, code := 0x01, ops := ops } s = true →
        exec (.loadScene tag ops) s = .next (loadAnswered tag c.val s put)) ∧
      let used := (∃ i : InstIx, (s.insts[i]).state ≠ .free ∧ (s.insts[i]).scene = c) ∨
        ∃ w ∈ s.waitList, w.scene = c
      let twice := ¬ (r.groups.Nodup ∧ r.zones.Nodup ∧ r.axes.Nodup)
      (r.bay.val = num1 e 0 ∧ r.priority.val = num1 e 1 ∧ r.flags.byte = e.getD 2 0 &&& 0x3F ∧
        r.release = min 600000 (num4 e 3) ∧ r.cooldown = min 600000 (num4 e 7) ∧ r.waitLimit = min 120000 (num4 e 11) ∧
        r.first.val = num2 e 15 ∧ r.groups.map (·.val) = ((e.drop 18).take (num1 e 17)).map (·.toNat) ∧
        r.zones.map (·.val) = ((e.drop 27).take (num1 e 26)).map (·.toNat) ∧
        r.axes.map (·.val) = ((e.drop 30).take (num1 e 29)).map (·.toNat)) ∧
      (used → put = .error .inUse) ∧ (¬ used → twice → put = .error .badValue) ∧
      (¬ used → ¬ twice → put = .ok
        { s with scenes := upd s.scenes c (fun o => { r with ready := o.ready, cooling := o.cooling }) })) ∧
    (∀ (k : CueIx) (e : List Byte) (r : CueRec), parseCue e = some r →
      writeEntry 9 line k.val e s = .ok { s with cues := s.cues.set k r }) ∧
    ∀ (first : Nat) (cues : List (List Byte × CueRec)), first + cues.length ≤ 2048 →
      (∀ x ∈ cues, x.1.length = 10 ∧ parseCue x.1 = some x.2) →
      let ops := 0x09 :: line :: (toBytes2 first ++ (toBytes2 cues.length ++ cues.flatMap (·.1)))
      atHead { tag := tag, code := 0x01, ops := ops } s = true →
      ∃ t, exec (.loadCue tag ops) s = .next (replied tag 0x01 .ok t) ∧ s.sameBut t [.cues] ∧
        (∀ k : CueIx, k.val < first ∨ first + cues.length ≤ k.val → t.cues[k] = s.cues[k]) ∧
        ∀ (k : CueIx) (x : List Byte × CueRec), first ≤ k.val → cues[k.val - first]? = some x →
          t.cues[k] = x.2 ∧ (t.cues[k]).delay = num2 x.1 0 ∧ (t.cues[k]).kind.spelt x.1

/-- LOAD ZONE of one entry: a zone with an owner is skipped, a bed gain slot not loaded as GAIN is a bad value, and else
the loaded fields are written, clamped; where the zone comes to lie in a DARK bay it loses its chunks, whose blocks go
back to the pool, its voice-active flag and its bed's fade, and its pause flag where its usage falls below its new resume
level (R165); where its bed gain slot changes while voice-active is set, the old slot fades toward BASE over
the new restore time and the new one toward the new duck level over the new duck time (R150); when a write does both,
their order is free (log entry 17). -/
def Obligations.LoadZone : Prop :=
  ∀ (tag line : Byte) (z : ZoneIx) (e : List Byte) (r : ZoneLoad) (s : State), e.length = 24 → parseZone e = some r →
    let ops := loadOne 0x0A line z.val e
    let put := writeEntry 10 line z.val e s
    (atHead { tag := tag, code := 0x01, ops := ops } s = true →
      exec (.loadZone tag ops) s = .next (loadAnswered tag z.val s put)) ∧
    let old := s.zones[z]
    let written : Zone :=
      { old with
        bay := r.bay, line := r.line, node := r.node, bedSlot := r.bedSlot, duckLevel := r.duckLevel
        duckTime := r.duckTime, restoreTime := r.restoreTime, pace := r.pace, limit := r.limit
        pauseLevel := r.pauseLevel, resumeLevel := r.resumeLevel, ambientEnable := r.ambientEnable }
    let gone := old.announceQ ++ old.sceneQ ++ old.ambientQ
    let blocks : Nat := (gone.map (fun c => (c.audio.length + 95) / 96)).sum
    let emptied (t : State) : Prop :=
      t.zones = upd s.zones z (fun _ =>
        { written with
          announceQ := [], sceneQ := [], ambientQ := [], voiceActive := false, usage := old.usage - blocks
          paused := old.paused && decide (gone = [] ∨ r.resumeLevel ≤ old.usage - blocks) }) ∧
      t.pool = { s.pool with free := s.pool.free + blocks }
    let bad := ∃ m, r.bedSlot = some m ∧ (s.loadedSlot m.1 m.2).kind ≠ .gain
    let dark := s.bayState old.bay ≠ .dark ∧ s.bayState r.bay = .dark
    let moved := old.voiceActive = true ∧ old.bedSlot ≠ r.bedSlot
    (r.bay.val = num1 e 0 ∧ r.line.val = num1 e 1 ∧ r.node.val = num1 e 2 ∧ (r.bedSlot = none ↔ num1 e 3 = 255) ∧
      (∀ m, r.bedSlot = some m → m.1.val = num1 e 3 ∧ m.2.val = num1 e 4) ∧ r.duckLevel = num2 e 5 ∧
      r.duckTime = min 600000 (num4 e 7) ∧ r.restoreTime = min 600000 (num4 e 11) ∧ r.pace = num2 e 15 ∧
      r.limit = max 8 (min 512 (num2 e 17)) ∧ r.pauseLevel = min 512 (num2 e 19) ∧
      r.resumeLevel = min 512 (num2 e 21) ∧ r.ambientEnable = (e.getD 23 0).getLsbD 0) ∧
    (old.owner.isSome = true → put = .error .inUse) ∧ (old.owner = none → bad → put = .error .badValue) ∧
    (old.owner = none → ¬ bad → ¬ dark → ¬ moved → put = .ok { s with zones := upd s.zones z (fun _ => written) }) ∧
    (old.owner = none → ¬ bad → dark → ¬ moved →
      ∃ t, put = .ok t ∧ s.sameBut t [.zones, .pool, .fades, .trunk, .checks] ∧ emptied t ∧
        ∀ (l : LineIx) (k : SlotIx),
          t.fade l k = if r.bedSlot = some (l, k) then (s.fade l k).toBase else s.fade l k) ∧
    (let rest (l : LineIx) (k : SlotIx) : FadeRec := (fadeStart l k .base r.restoreTime s).fade l k
     let duck (l : LineIx) (k : SlotIx) (v : State) : FadeRec :=
       (fadeStart l k (.fixed r.duckLevel) r.duckTime v).fade l k
     let others (l : LineIx) (k : SlotIx) (t : State) : Prop :=
       (old.bedSlot = some (l, k) → t.fade l k = rest l k) ∧
         (old.bedSlot ≠ some (l, k) → r.bedSlot ≠ some (l, k) → t.fade l k = s.fade l k)
     (old.owner = none → ¬ bad → ¬ dark → moved →
       ∃ t, put = .ok t ∧ s.sameBut t [.zones, .fades] ∧ t.zones = upd s.zones z (fun _ => written) ∧
         ∀ (l : LineIx) (k : SlotIx), others l k t ∧ (r.bedSlot = some (l, k) → t.fade l k = duck l k s)) ∧
     (old.owner = none → ¬ bad → dark → moved →
       ∃ t, put = .ok t ∧ s.sameBut t [.zones, .pool, .fades, .trunk, .checks, .choices] ∧ emptied t ∧
         ∀ (l : LineIx) (k : SlotIx), others l k t ∧
           (r.bedSlot = some (l, k) →
             t.fade l k = (duck l k s).toBase ∨ t.fade l k = duck l k (baseRequest l k s))))

/-- LOAD AXIS of one entry: an axis with an owner is skipped; a setpoint slot that is not loaded as AXIS of this axis, or
a feedback slot that is not loaded as its POSITION reply, is a bad value; else the loaded fields are written, clamped,
the buckets are clipped, and an IDLE axis whose slots changed becomes UNSYNCED with following count 0 (R169, R170). -/
def Obligations.LoadAxis : Prop :=
  ∀ (tag line : Byte) (a : AxisIx) (e : List Byte) (r : AxisLoad) (s : State), e.length = 29 → parseAxis e = some r →
    let ops := loadOne 0x0B line a.val e
    let put := writeEntry 11 line a.val e s
    (atHead { tag := tag, code := 0x01, ops := ops } s = true →
      exec (.loadAxis tag ops) s = .next (loadAnswered tag a.val s put)) ∧
    let fit :=
      ((s.loadedSlot r.setpoint.1 r.setpoint.2).kind = .axis ∧ (s.loadedSlot r.setpoint.1 r.setpoint.2).axis = a) ∧
      ∀ m, r.feedback = some m →
        (s.loadedSlot m.1 m.2).kind = .reply ∧ (s.loadedSlot m.1 m.2).replyKind = .position ∧
          (s.loadedSlot m.1 m.2).axis = a
    (r.bay.val = num1 e 0 ∧ r.setpoint.1.val = num1 e 1 ∧ r.setpoint.2.val = num1 e 2 ∧
      (r.feedback = none ↔ num1 e 3 = 255) ∧ (∀ m, r.feedback = some m → m.1.val = num1 e 3 ∧ m.2.val = num1 e 4) ∧
      r.kl = num2 e 5 ∧ r.sl = num2 e 7 ∧ r.su = num2 e 9 ∧ r.ku = num2 e 11 ∧
      r.maxSpeed = max 1 (min 16383 (num2 e 13)) ∧ r.slowSpeed = max 1 (min 16383 (num2 e 15)) ∧
      r.defaultSpeed = max 1 (min 16383 (num2 e 17)) ∧ r.tolerance = num2 e 19 ∧
      r.faultCount = max 1 (min 15 (num1 e 21)) ∧ r.cbs = num2 e 22 ∧ r.ebs = num2 e 24 ∧ r.rate = num2 e 26 ∧
      r.holdBay = (e.getD 28 0).getLsbD 0) ∧
    ((s.axes[a]).owner.isSome = true → put = .error .inUse) ∧
    ((s.axes[a]).owner = none → ¬ fit → put = .error .badValue) ∧
    ((s.axes[a]).owner = none → fit →
      ∃ y : Axis, put = .ok { s with axes := upd s.axes a (fun _ => y) } ∧
        y.bay = r.bay ∧ y.setpoint = r.setpoint ∧ y.feedback = r.feedback ∧ y.kl = r.kl ∧ y.sl = r.sl ∧ y.su = r.su ∧
        y.ku = r.ku ∧ y.maxSpeed = r.maxSpeed ∧ y.slowSpeed = r.slowSpeed ∧ y.defaultSpeed = r.defaultSpeed ∧
        y.tolerance = r.tolerance ∧ y.faultCount = r.faultCount ∧ y.cbs = r.cbs ∧ y.ebs = r.ebs ∧ y.rate = r.rate ∧
        y.holdBay = r.holdBay ∧
        (let x := s.axes[a]
         let lost := x.state = .idle ∧ (x.setpoint ≠ r.setpoint ∨ x.feedback ≠ r.feedback)
         y.c = min x.c r.cbs ∧ y.e = min x.e r.ebs ∧ (lost → y.state = .unsynced ∧ y.following = 0) ∧
         (¬ lost → y.state = x.state ∧ y.following = x.following) ∧ y.pos = x.pos ∧ y.lastSent = x.lastSent ∧
         y.deadline = x.deadline ∧ y.residue = x.residue ∧ y.refilled = x.refilled ∧
         y.refillDeadline = x.refillDeadline ∧ y.clamps = x.clamps ∧ y.colour = x.colour ∧ y.owner = x.owner ∧
         y.moveFrom = x.moveFrom ∧ y.moveTo = x.moveTo ∧ y.speed = x.speed ∧ y.moveStart = x.moveStart ∧
         y.duration = x.duration))

/-- READ changes nothing but what its answer changes. Its tests come in the order of R11: the operand bytes, the table,
the fit into one answer, the index; then the entries are answered (R16). The runtime fields that follow the loaded ones,
and the runtime records, are given field by field, in the order of the READ rules (R24, R39, R60, R73, R76, R84, R92, R105,
R106, R115, R127, R151, R170, R194, 12.3); where those rules and R196 leave a coding open, it is the model's choice: zeros
for a time that is none (log entry 7), the codes for none of fields outside the forms of R196 and their sizes (log entry 8),
the order of lists that stand in a sentence (log entry 9), the class byte of a POOL check (log entry 42) and lone flags (log
entry 45). After a LOAD of one entry that was answered OK, the loaded bytes of that entry as READ
returns them spell the very record that the LOAD's bytes spell, clamped (R16; bytes a layout ignores read 0: log
entry 7). -/
def Obligations.Read : Prop :=
  (∀ (tag line : Byte) (n k : Nat) (e : List Byte) (s : State), n ≤ 11 → k < tableLength n → e.length = entrySize n →
    let ops := loadOne (BitVec.ofNat 8 n) line k e
    atHead { tag := tag, code := 0x01, ops := ops } s = true →
    ∃ (r : Reply) (u : State), exec (loadInstr tag ops) s = .next (replied tag 0x01 r u) ∧
      (r = .ok → ∀ t, readableOf (BitVec.ofNat 8 n) line = some t →
        entryAgrees n ((t.bytes u k).take (entrySize n)) e)) ∧
  (∀ (line : Byte) (s : State),
    let entry (table line : Byte) (k : Nat) : List Byte :=
      match readableOf table line with
      | some t => t.bytes s k
      | none => []
    let runtime (table : Byte) (k : Nat) : List Byte := (entry table line k).drop (entrySize table.toNat)
    (∀ w : WatchIx, let r := s.watch[w]
      runtime 0x01 w.val =
        spell ([flagField r.received, (4, r.updated.toNat), flagField r.stale] ++ timeFields r.deadline) ++
          r.image.toList) ∧
    (∀ (l : LineIx) (k : SlotIx), let f := s.fade l k
      (entry 0x02 (BitVec.ofNat 8 l.val) k.val).drop (entrySize 2) =
        spell
          ([optField 2 (s.parks[l])[k], placeField [.atBase, .fading, .holding, .frozen] f.state, (2, f.start)] ++
            (match f.target with | .fixed n => [(1, 0), (2, n)] | .base => [(1, 1), (2, 0)]) ++
            [(4, f.t0.toNat), (3, f.duration), (3, f.remaining)] ++ timeFields f.deadline)) ∧
    (∀ l : LineIx, let e := s.lines[l]
      runtime 0x03 l.val =
        spell
          ([placeField [false, true] e.running, flagField e.stopPending] ++ timeFields e.nextStart ++
            e.nodes.toList.flatMap
              (fun n => [placeField [.unknown, .present, .absent] n.presence, (1, n.misses)]) ++
            [(2, e.replyErrors)])) ∧
    (∀ g : GroupIx, runtime 0x05 g.val = spell [optField 1 ((s.groups[g]).owner.map (·.val))]) ∧
    (∀ x : TrigIx, let r := s.triggers[x]
      runtime 0x07 x.val =
        spell
          [(1, r.credit), (2, r.dropped),
            match r.action with | .intrusion _ => placeField [true, false] r.active | _ => (1, 255)]) ∧
    (∀ c : SceneIx, let r := s.scenes[c]
      let held (i : InstIx) : Prop := (s.insts[i]).state ≠ .free ∧ (s.insts[i]).scene = c
      let place : Nat := s.waitList.findIdx (fun e => e.scene == c)
      ∃ busy : Option InstIx,
        runtime 0x08 c.val =
          spell
            [(4, r.ready.toNat), flagField r.cooling, optField 1 (busy.map (·.val)),
              (1, if place < s.waitList.length then place else 255)] ∧
        match busy with
        | some i => held i ∧ ∀ j : InstIx, j < i → ¬ held j
        | none => ∀ i : InstIx, ¬ held i) ∧
    (∀ z : ZoneIx, let r := s.zones[z]
      let queue (q : List Chunk) : List (Nat × Nat) :=
        [(2, q.length), (2, (q.map (fun c => (c.audio.length + 95) / 96)).sum)] ++
          (match q with
            | c :: _ => [(2, c.clip), (2, c.seq)] ++ timeFields (some c.arrival)
            | [] => [(2, 65535), (2, 65535)] ++ timeFields none)
      runtime 0x0A z.val =
        spell
          ([optField 1 (r.owner.map (·.val)), (2, r.clip), placeField [.none, .expecting, .playing, .done] r.clipState,
              (2, r.usage), flagField r.paused, flagField r.voiceActive] ++
            timeFields r.voiceNext ++ timeFields r.bedNext ++ [(2, r.drops)] ++ queue r.announceQ ++ queue r.sceneQ ++
            queue r.ambientQ)) ∧
    (∀ a : AxisIx, let r := s.axes[a]
      runtime 0x0B a.val =
        spell
          ([placeField [.unsynced, .idle, .moving, .stopped] r.state, (2, r.position s.now), optField 2 r.lastSent,
              (2, r.moveFrom), (2, r.moveTo), (2, r.speed), (4, r.moveStart.toNat), (4, r.duration)] ++
            timeFields r.deadline ++
            [(2, r.c), (2, r.e), (2, r.residue), (4, r.refilled.toNat), (4, r.refillDeadline.toNat), (1, r.following),
              (2, r.clamps), (match r.colour with | some c => placeField [.green, .yellow, .red] c | none => (1, 255)),
              optField 1 (r.owner.map (·.val))])) ∧
    (∀ i : InstIx, let n := s.insts[i]
      runtime 0x10 i.val =
        spell
          ([placeField [.free, .running, .suspended] n.state, (1, n.scene.val), placeField origins n.origin,
              (4, n.start.toNat), (2, n.cue.val)] ++
            timeFields n.due ++
            (match n.wait with
              | some w =>
                (match w.on with
                  | .trigger x => [(1, 0), (1, x.val)]
                  | .motion a => [(1, 1), (1, a.val)]
                  | .clip z => [(1, 2), (1, z.val)]) ++
                timeFields w.deadline ++ [placeField [.next, .endIt] w.action]
              | none => [(1, 255), (1, 0)] ++ timeFields none ++ [(1, 0)]) ++
            [optField 2 (n.loopOwner.map (·.val)), (1, n.loopCount), optField 2 n.remDue, optField 2 n.remWait])) ∧
    (∀ k : Nat, k < 8 →
      runtime 0x11 k =
        spell
          (match s.waitList[k]? with
            | some e =>
              [(1, e.scene.val), placeField origins e.origin, (1, e.priority.val), (4, e.enqueued.toNat),
                (4, e.expiry.toNat)]
            | none => [(1, 255), (10, 0)])) ∧
    (let u := s.checks
     let t := s.trunk
     runtime 0x12 0 =
       spell (u.classes.toList.flatMap (fun r => [flagField r.seen, (1, r.count)])) ++
         (match u.context with
           | some c =>
             let object := spell (objectFields c.object)
             spell (classFields c.object) ++ object ++ List.replicate (7 - object.length) 0 ++
               spell [(4, c.time.toNat), (4, c.showTime.toNat), optField 1 (c.inst.map (·.val))]
           | none => spell [(1, 255), (17, 0)]) ++
         spell
           [placeField [.quiet, .fatal, .severe, .all] u.mode, maskField u.mask, (1, u.lost),
             placeField [.up, .down] t.linkA, placeField [.up, .down] t.linkB, (2, t.linkErrors), (2, t.downDrops),
             (2, t.returnDrops), (2, t.busyDiscards)]) ∧
    runtime 0x13 0 =
      spell ([(2, s.pool.free)] ++ s.zones.toList.map (fun z => (2, z.usage)) ++ [(2, s.pool.unknownZone)]) ∧
    ∀ b : BayIx, let r := s.bays[b]
      runtime 0x14 b.val =
        spell
          ([placeField bayStates r.state, (4, r.entryTime.toNat), (1, r.occupancy), (1, r.intrusions.length)] ++
            (List.range 16).map (fun j => optField 1 ((r.intrusions[j]?).map (·.val))) ++ [causesField r.causes] ++
            timeFields r.linger ++ timeFields r.holdRelease ++ [(2, r.underflow), (2, r.overflow), (2, r.ignored)])) ∧
  ∀ (tag : Byte) (ops : List Byte) (s : State), atHead { tag := tag, code := 0x02, ops := ops } s = true →
    (∃ r : Reply, exec (.read tag ops) s = .next (replied tag 0x02 r s)) ∧
    (ops.length ≠ 6 → exec (.read tag ops) s = .next (replied tag 0x02 (.bad .badFrame) s)) ∧
    ∀ (table line : Byte) (first n : Nat), first < 65536 → n < 65536 →
      ops = table :: line :: (toBytes2 first ++ toBytes2 n) →
      (readableOf table line = none ↔
        (0x0B < table.toNat ∧ table.toNat < 0x10) ∨ 0x14 < table.toNat ∨ (table = 0x02 ∧ 5 < line.toNat)) ∧
      (readableOf table line = none → exec (.read tag ops) s = .next (replied tag 0x02 (.bad .badTable) s)) ∧
      ∀ t, readableOf table line = some t →
        (∀ x ∈ ([(0x00, 1, 8), (0x01, 8, 269), (0x02, 48, 34), (0x03, 6, 50), (0x04, 8, 34), (0x05, 64, 34),
            (0x06, 16, 12), (0x07, 128, 12), (0x08, 96, 41), (0x09, 2048, 10), (0x0A, 24, 83), (0x0B, 24, 72),
            (0x10, 12, 29), (0x11, 8, 11), (0x12, 1, 47), (0x13, 1, 52), (0x14, 16, 40)] : List (Nat × Nat × Nat)),
          table.toNat = x.1 → t.entries = x.2.1 ∧ t.size = x.2.2) ∧
        (∀ k : Nat, k < t.entries → (t.bytes s k).length = t.size) ∧
        (503 < t.size * n → exec (.read tag ops) s = .next (replied tag 0x02 (.bad .badFrame) s)) ∧
        (t.size * n ≤ 503 → t.entries < first + n →
          exec (.read tag ops) s = .next (replied tag 0x02 (.bad .badIndex) s)) ∧
        (t.size * n ≤ 503 → first + n ≤ t.entries → exec (.read tag ops) s = .next
          (replied tag 0x02
            { status := .ok
              detail := .read table line first n ((List.range n).flatMap (fun j => t.bytes s (first + j))) } s))

/-! ## The commands of lines, bays and slots -/

/-- LINE ON starts a line that is OFF at once and takes back a stop that is pending (R20). LINE OFF changes nothing on a
line that is OFF, marks a stop within a frame, and else stops the line: its nodes are UNKNOWN and its previous reply words
gone, and each node that was known is announced to the Trigger Unit, so with no node known before nothing else changes; a
frame end with a stop pending stops the line the same way (R21, R101; that the announcements come after the clearing, in
ascending node number, is the model's choice, log entry 30). -/
def Obligations.LineOnOff : Prop :=
  ∀ (tag : Byte) (l : LineIx) (s : State),
    let ops := [byte l.val]
    let e := s.lines[l]
    let off : State :=
      { s with
        lines := upd s.lines l (fun x =>
          { x with
            running := false, stopPending := false, nextStart := none, frame := none,
            nodes := Vector.replicate 16 { presence := .unknown, misses := 0 }, prev := Vector.replicate 48 none }) }
    let known := (List.finRange 16).filter (fun n : NodeIx => decide ((e.nodes[n]).presence ≠ .unknown))
    let announced : State := known.foldl (fun v n => evaluateNode l n v) off
    (∀ start : Time, e.stopPending = true → endFrame l start s = announced) ∧
    (atHead { tag := tag, code := 0x10, ops := ops } s = true →
      exec (.lineOn tag ops) s = .next (replied tag 0x10 .ok
        { s with
          lines := upd s.lines l (fun x =>
            { x with
              running := true, stopPending := false
              nextStart := if x.running then x.nextStart else some s.now }) })) ∧
    (atHead { tag := tag, code := 0x11, ops := ops } s = true →
      (e.running = false → exec (.lineOff tag ops) s = .next (replied tag 0x11 .ok s)) ∧
      (e.running = true → e.frame.isSome = true → exec (.lineOff tag ops) s = .next (replied tag 0x11 .ok
        { s with lines := upd s.lines l (fun x => { x with stopPending := true }) })) ∧
      (e.running = true → e.frame = none →
        ∃ t, exec (.lineOff tag ops) s = .next (replied tag 0x11 .ok t) ∧ t = announced ∧ t.lines = off.lines ∧
          ((∀ n : NodeIx, (e.nodes[n]).presence = .unknown) → s.sameBut t [.lines])))

/-- OPEN BAY, CLOSE BAY and SERVICE BAY: what they do in each bay state, and the bay's state after them in the answer
(R47, R48, R51). HOLD BAY is refused in DARK and SERVICE and adds the COMMAND cause elsewhere, holding an ATTRACT or LIVE
bay (R49). RELEASE BAY changes nothing outside HOLD; in HOLD it removes the causes COMMAND and FAULT, and the bay leaves
HOLD for ATTRACT or LIVE by its occupancy unless SENSOR stays (R46, R50). What the other blocks do with a change of state
is `BayChangeTaken`. -/
def Obligations.BayCommands : Prop :=
  (∀ (tag : Byte) (b : BayIx) (s : State),
     let ops := [byte b.val]
     let r := s.bays[b]
     let ok (x : BayState) : Reply := { status := .ok, detail := .bayState x }
     let cleared : State :=
       { s with bays := upd s.bays b (fun q => { q with causes := { q.causes with command := false, fault := false } }) }
     (atHead { tag := tag, code := 0x20, ops := ops } s = true →
       (r.state = .attract ∨ r.state = .live ∨ r.state = .hold →
         exec (.openBay tag ops) s = .next (replied tag 0x20 (ok r.state) s)) ∧
       (r.state = .dark ∨ r.state = .service →
         let new : BayState := if r.causes.sensor = true then .hold else if 0 < r.occupancy then .live else .attract
         ∃ t, exec (.openBay tag ops) s = .next (replied tag 0x20 (ok new) t) ∧ entersState b new .opened s t)) ∧
     (atHead { tag := tag, code := 0x21, ops := ops } s = true →
       (r.state = .dark → exec (.closeBay tag ops) s = .next (replied tag 0x21 (ok .dark) cleared)) ∧
       (r.state ≠ .dark →
         ∃ t, exec (.closeBay tag ops) s = .next (replied tag 0x21 (ok .dark) t) ∧
           entersState b .dark .closed cleared t)) ∧
     (atHead { tag := tag, code := 0x24, ops := ops } s = true →
       (r.state = .service → exec (.serviceBay tag ops) s = .next (replied tag 0x24 (ok .service) cleared)) ∧
       (r.state ≠ .service →
         ∃ t, exec (.serviceBay tag ops) s = .next (replied tag 0x24 (ok .service) t) ∧
           entersState b .service .serviced cleared t))) ∧
  ∀ (tag : Byte) (b : BayIx) (s : State),
    let ops := [byte b.val]
    let r := s.bays[b]
    let ok (x : BayState) : Reply := { status := .ok, detail := .bayState x }
    let withCommand : State :=
      { s with bays := upd s.bays b (fun q => { q with causes := { q.causes with command := true } }) }
    let cleared : State :=
      { s with bays := upd s.bays b (fun q => { q with causes := { q.causes with command := false, fault := false } }) }
    (atHead { tag := tag, code := 0x22, ops := ops } s = true →
      (r.state = .dark ∨ r.state = .service → exec (.holdBay tag ops) s =
        .next (replied tag 0x22 { status := .refused, detail := .refused .bayState } s)) ∧
      (r.state = .hold → exec (.holdBay tag ops) s = .next (replied tag 0x22 (ok .hold) withCommand)) ∧
      (r.state = .attract ∨ r.state = .live →
        ∃ t, exec (.holdBay tag ops) s = .next (replied tag 0x22 (ok .hold) t) ∧
          entersState b .hold .held withCommand t)) ∧
    (atHead { tag := tag, code := 0x23, ops := ops } s = true →
      (r.state ≠ .hold → exec (.releaseBay tag ops) s = .next (replied tag 0x23 (ok r.state) s)) ∧
      (r.state = .hold → r.causes.sensor = true →
        exec (.releaseBay tag ops) s = .next (replied tag 0x23 (ok .hold) cleared)) ∧
      (r.state = .hold → r.causes.sensor = false →
        let new : BayState := if r.occupancy = 0 then .attract else .live
        ∃ t, exec (.releaseBay tag ops) s = .next (replied tag 0x23 (ok new) t) ∧
          entersState b new .released cleared t))

/-- PARK SLOT, UNPARK SLOT and SET MASTER: the byte counts, the bad values and indexes, and the one field each writes
(R11, R67, R71, R73). -/
def Obligations.ParksMasters : Prop :=
  ∀ (tag : Byte) (ops : List Byte) (s : State),
    (atHead { tag := tag, code := 0x30, ops := ops } s = true →
      (ops.length ≠ 4 → exec (.parkSlot tag ops) s = .next (replied tag 0x30 (.bad .badFrame) s)) ∧
      ∀ l k v1 v0 : Byte, ops = [l, k, v1, v0] →
        (5 < l.toNat ∨ 47 < k.toNat → exec (.parkSlot tag ops) s = .next (replied tag 0x30 (.bad .badIndex) s)) ∧
        ∀ (x : LineIx) (y : SlotIx), l.toNat = x.val → k.toNat = y.val →
          exec (.parkSlot tag ops) s = .next (replied tag 0x30 .ok
            { s with parks := upd s.parks x (fun row => row.set y (some (v1.toNat * 256 + v0.toNat))) })) ∧
    (atHead { tag := tag, code := 0x31, ops := ops } s = true →
      (ops.length ≠ 2 → exec (.unparkSlot tag ops) s = .next (replied tag 0x31 (.bad .badFrame) s)) ∧
      ∀ l k : Byte, ops = [l, k] →
        (5 < l.toNat ∨ 47 < k.toNat → exec (.unparkSlot tag ops) s = .next (replied tag 0x31 (.bad .badIndex) s)) ∧
        ∀ (x : LineIx) (y : SlotIx), l.toNat = x.val → k.toNat = y.val →
          exec (.unparkSlot tag ops) s = .next (replied tag 0x31 .ok
            { s with parks := upd s.parks x (fun row => row.set y none) })) ∧
    (atHead { tag := tag, code := 0x32, ops := ops } s = true →
      (ops.length ≠ 4 → exec (.setMaster tag ops) s = .next (replied tag 0x32 (.bad .badFrame) s)) ∧
      ∀ b m v1 v0 : Byte, ops = [b, m, v1, v0] →
        let v := v1.toNat * 256 + v0.toNat
        (2 < m.toNat ∨ 255 < v → exec (.setMaster tag ops) s = .next (replied tag 0x32 (.bad .badFrame) s)) ∧
        (m.toNat ≤ 2 → v ≤ 255 →
          (15 < b.toNat → exec (.setMaster tag ops) s = .next (replied tag 0x32 (.bad .badIndex) s)) ∧
          ∀ x : BayIx, b.toNat = x.val →
            exec (.setMaster tag ops) s = .next (replied tag 0x32 .ok
              { s with
                bays := upd s.bays x (fun r =>
                  { r with
                    attractMaster := if m.toNat = 0 then v else r.attractMaster
                    liveMaster := if m.toNat = 1 then v else r.liveMaster
                    audioMaster := if m.toNat = 2 then v else r.audioMaster }) })))

/-! ## Scenes -/

/-- A request refused, whatever its origin: the first of the tests of R107 to R114 that holds gives the reason, and
nothing changes but that a request of origin TRIGGER or BAY is reported REFUSED where the scene has the REPORT flag (R124).
START SCENE makes a request of origin COMMAND, and nothing changes but what the re-scan after its decision does (R117,
R122). -/
def Obligations.StartRefused : Prop :=
  ∀ (c : SceneIx) (o : Origin) (s : State),
    let r := s.scenes[c]
    let bay := s.bayState r.bay
    let running := ∃ i : InstIx, (s.insts[i]).state ≠ .free ∧ (s.insts[i]).scene = c
    let allBusy := ∀ i : InstIx, (s.insts[i]).state ≠ .free
    let owns (i : InstIx) : Prop :=
      (∃ g ∈ r.groups, (s.groups[g]).owner = some i) ∨ (∃ z ∈ r.zones, (s.zones[z]).owner = some i) ∨
        ∃ a ∈ r.axes, (s.axes[a]).owner = some i
    let conflict := ∃ i, owns i
    let preempts := ∀ i, owns i → (s.sceneOf i).priority < r.priority ∧ (s.sceneOf i).flags.safety = false
    let stuck := (conflict ∧ ¬ preempts) ∨ (¬ conflict ∧ allBusy)
    let noQueue := r.waitLimit = 0 ∨ bay = .service
    let tests : List (Prop × RefuseReason) :=
      [(r.flags.attract = false ∧ r.flags.live = false ∧ r.flags.safety = false, .notDefined), (bay = .dark, .bayClosed),
        ((bay = .attract ∧ r.flags.attract = false) ∨ (bay = .live ∧ r.flags.live = false) ∨
          (bay = .hold ∧ r.flags.safety = false) ∨ (bay = .service ∧ o ≠ .command), .bayState),
        (r.cooling = true, .cooldown), (running ∧ r.flags.restart = false, .alreadyRunning),
        (¬ running ∧ ∃ w ∈ s.waitList, w.scene = c, .alreadyWaiting),
        (¬ running ∧ conflict ∧ ¬ preempts ∧ noQueue, .conflict), (¬ running ∧ ¬ conflict ∧ allBusy ∧ noQueue, .noInstance),
        (¬ running ∧ stuck ∧ 8 ≤ s.waitList.length, .waitFull)]
    ∀ (n : Nat) (p : Prop) (x : RefuseReason), tests[n]? = some (p, x) → p →
      (∀ (m : Nat) (q : Prop) (y : RefuseReason), m < n → tests[m]? = some (q, y) → ¬ q) →
      request c o s =
        (if o ≠ .command ∧ r.flags.report = true then offerReport (.scene c none o (.refused x)) s else s, .refused x) ∧
      ∀ tag : Byte, o = .command → atHead { tag := tag, code := 0x40, ops := [byte c.val] } s = true →
        exec (.startScene tag [byte c.val]) s =
          .next (replied tag 0x40 { status := .refused, detail := .refused x } (rescan s))

/-- A request, whatever its origin, for a scene that its bay permits, without a conflict: restarted in its own instance;
admitted into the free instance with the lowest number, which owns the scene's claims and is due at its first cue's delay;
or queued for its wait limit after every entry of equal or higher priority (R109, R113, R114, R115, R130). A restart is
reported RESTARTED; an admission is reported ADMITTED and a queueing WAITING for a request of origin TRIGGER or BAY where
the scene has the REPORT flag (R124). START SCENE makes such a request of origin COMMAND, answers its outcome and re-scans
(R117, R122). -/
def Obligations.StartAdmitted : Prop :=
  ∀ (c : SceneIx) (o : Origin) (s : State),
    let r := s.scenes[c]
    let owned (i : InstIx) : Prop :=
      (∃ g ∈ r.groups, (s.groups[g]).owner = some i) ∨ (∃ z ∈ r.zones, (s.zones[z]).owner = some i) ∨
        ∃ a ∈ r.axes, (s.axes[a]).owner = some i
    let running := ∃ i : InstIx, (s.insts[i]).state ≠ .free ∧ (s.insts[i]).scene = c
    let begun (n : Inst) : Inst :=
      { n with
        origin := o, start := s.now, cue := r.first, due := some (later s.now (s.cues[r.first]).delay),
        wait := none, loopOwner := none, loopCount := 0, remDue := none, remWait := none }
    let reported (i : Option InstIx) (e : SceneEvent) (t : State) : State :=
      if o ≠ .command ∧ r.flags.report = true then offerReport (.scene c i o e) t else t
    let started (d : Detail) (t : State) : Prop :=
      ∀ tag : Byte, o = .command → atHead { tag := tag, code := 0x40, ops := [byte c.val] } s = true →
        exec (.startScene tag [byte c.val]) s = .next (replied tag 0x40 { status := .ok, detail := d } (rescan t))
    r.flags.defined = true → permission (s.bayState r.bay) r.flags o = none → r.cooling = false →
    (∀ i : InstIx, (s.insts[i]).state ≠ .free → (s.insts[i]).scene = c →
      (∀ j : InstIx, (s.insts[j]).state ≠ .free → (s.insts[j]).scene = c → j = i) → r.flags.restart = true →
      let t := offerReport (.scene c (some i) o .restarted) { s with insts := upd s.insts i begun }
      request c o s = (t, .restarted i) ∧ started (.inst i) t) ∧
    (¬ running → (∀ w ∈ s.waitList, w.scene ≠ c) → (∀ i, ¬ owned i) →
      (∀ i : InstIx, (s.insts[i]).state = .free → (∀ j : InstIx, j < i → (s.insts[j]).state ≠ .free) →
        ∃ t, request c o s = (reported (some i) .admitted t, .admitted i) ∧ started (.inst i) t ∧
          s.sameBut t [.insts, .groups, .zones, .axes] ∧
          t.insts = upd s.insts i (fun n => begun { n with state := .running, scene := c }) ∧
          (∀ g : GroupIx, t.groups[g] = if g ∈ r.groups then { s.groups[g] with owner := some i } else s.groups[g]) ∧
          (∀ z : ZoneIx, t.zones[z] = if z ∈ r.zones then { s.zones[z] with owner := some i } else s.zones[z]) ∧
          (∀ a : AxisIx, t.axes[a] = if a ∈ r.axes then { s.axes[a] with owner := some i } else s.axes[a]) ∧
          (s.waitList = [] → rescan t = t)) ∧
      ((∀ i : InstIx, (s.insts[i]).state ≠ .free) → 0 < r.waitLimit → s.bayState r.bay ≠ .service →
        s.waitList.length < 8 →
        ∃ before after : List WaitEntry, s.waitList = before ++ after ∧ (∀ w ∈ before, r.priority ≤ w.priority) ∧
          (∀ w, after.head? = some w → w.priority < r.priority) ∧
          (let t : State :=
             { s with
               waitList := before ++
                 { scene := c, origin := o, priority := r.priority, enqueued := s.now,
                   expiry := later s.now r.waitLimit } :: after }
           request c o s = (reported none .waiting t, .waiting) ∧ started .waiting t)))

/-- What an end does (R121), what a preemption does (R111, R112, R113), how a request that may not preempt is queued on a
conflict (R114, R115), and the re-scan (R116). A preemption ends its victims in ascending number, keeps what the request
also claims as it stands, admits the request into the lowest free instance, reports ADMITTED where a report is due
and re-scans. A re-scan walks the list from head to tail; it admits an entry when its bay permits
it, what it claims is free and an instance is free, and it leaves no entry that could be admitted. The model's choices: a
cooldown of 0 sets no cooling flag (log entry 13), an axis halted by an end keeps its move's from, to, speed, start and
duration (log entry 20), and the ADMITTED report comes before the re-scan (log entry 21). -/
def Obligations.PreemptionAndRescan : Prop :=
  (∀ (i : InstIx) (cause : EndCause) (pre : Option SceneIx) (s : State),
    let n := s.insts[i]
    let c := s.sceneOf i
    let givesG (g : GroupIx) : Prop :=
      g ∈ c.groups ∧ (∀ p, pre = some p → g ∉ (s.scenes[p]).groups) ∧ (s.groups[g]).owner = some i
    let givesZ (z : ZoneIx) : Prop :=
      z ∈ c.zones ∧ (∀ p, pre = some p → z ∉ (s.scenes[p]).zones) ∧ (s.zones[z]).owner = some i
    let givesA (a : AxisIx) : Prop :=
      a ∈ c.axes ∧ (∀ p, pre = some p → a ∉ (s.scenes[p]).axes) ∧ (s.axes[a]).owner = some i
    (n.state = .free → endInstance i cause s = s) ∧
    (n.state ≠ .free → endInstance i cause s = rescan (endSteps i cause none s)) ∧
    ∃ t : State,
      endSteps i cause pre s =
        (if c.flags.report = true ∨ cause ≠ .endCue then
          offerReport (.scene n.scene (some i) n.origin (.ended cause pre)) t
        else t) ∧
      s.sameBut t [.insts, .fades, .groups, .zones, .pool, .axes, .scenes, .trunk, .checks] ∧
      t.insts[i] =
        { n with
          state := .free, due := none, wait := none, loopOwner := none, loopCount := 0, remDue := none,
          remWait := none } ∧
      (∀ j : InstIx, j ≠ i → (t.insts[j]).state = (s.insts[j]).state ∧ (t.insts[j]).scene = (s.insts[j]).scene ∧
        (t.insts[j]).origin = (s.insts[j]).origin) ∧
      othersSame s.scenes t.scenes n.scene ∧
      t.scenes[n.scene] = { c with ready := later s.now c.cooldown, cooling := decide (c.cooldown ≠ 0) } ∧
      (∀ g : GroupIx, (givesG g → t.groups[g] = { s.groups[g] with owner := none }) ∧
        (¬ givesG g → t.groups[g] = s.groups[g])) ∧
      (∀ (l : LineIx) (k : SlotIx),
        ((∃ g, givesG g ∧ (l, k) ∈ (s.groups[g]).members) →
          t.fade l k = (releaseMember c.release l k s).fade l k) ∧
        ((∀ g, givesG g → (l, k) ∉ (s.groups[g]).members) → t.fade l k = s.fade l k)) ∧
      (∀ z : ZoneIx,
        (givesZ z → ∃ (u : Nat) (p : Bool), t.zones[z] =
          { s.zones[z] with owner := none, clipState := .none, sceneQ := [], usage := u, paused := p }) ∧
        (¬ givesZ z → t.zones[z] = s.zones[z])) ∧
      ∀ a : AxisIx,
        (givesA a → t.axes[a] =
          if (s.axes[a]).state = .moving then
            { s.axes[a] with state := .idle, pos := (s.axes[a]).position s.now, deadline := none, owner := none }
          else { s.axes[a] with owner := none }) ∧
        (¬ givesA a → t.axes[a] = s.axes[a])) ∧
  (∀ (i : InstIx) (c : SceneIx) (o : Origin) (s : State),
    let r := s.scenes[c]
    let t := admitScene i c o s
    s.sameBut t [.insts, .groups, .zones, .axes] ∧ othersSame s.insts t.insts i ∧
    t.insts[i] =
      { state := .running, scene := c, origin := o, start := s.now, cue := r.first,
        due := some (later s.now (s.cues[r.first]).delay), wait := none, loopOwner := none, loopCount := 0,
        remDue := none, remWait := none } ∧
    (∀ g : GroupIx, t.groups[g] = if g ∈ r.groups then { s.groups[g] with owner := some i } else s.groups[g]) ∧
    (∀ z : ZoneIx, t.zones[z] = if z ∈ r.zones then { s.zones[z] with owner := some i } else s.zones[z]) ∧
    ∀ a : AxisIx, t.axes[a] = if a ∈ r.axes then { s.axes[a] with owner := some i } else s.axes[a]) ∧
  (∀ (tag : Byte) (c : SceneIx) (s : State), atHead { tag := tag, code := 0x40, ops := [byte c.val] } s = true →
    let run := request c .command s
    exec (.startScene tag [byte c.val]) s = .next (replied tag 0x40 run.2.reply (rescan run.1))) ∧
  (∀ (c : SceneIx) (o : Origin) (s : State),
    let r := s.scenes[c]
    let owns (i : InstIx) : Prop :=
      (∃ g ∈ r.groups, (s.groups[g]).owner = some i) ∨ (∃ z ∈ r.zones, (s.zones[z]).owner = some i) ∨
        ∃ a ∈ r.axes, (s.axes[a]).owner = some i
    let wins := ∀ i, owns i → (s.sceneOf i).priority < r.priority ∧ (s.sceneOf i).flags.safety = false
    let reported (i : Option InstIx) (e : SceneEvent) (t : State) : State :=
      if o ≠ .command ∧ r.flags.report = true then offerReport (.scene c i o e) t else t
    r.flags.defined = true → permission (s.bayState r.bay) r.flags o = none → r.cooling = false →
    (∀ i : InstIx, (s.insts[i]).state ≠ .free → (s.insts[i]).scene ≠ c) → (∀ w ∈ s.waitList, w.scene ≠ c) →
    (∃ i, owns i) →
    (wins → ∃ (victims : List InstIx) (j : InstIx),
      victims.Pairwise (fun x y => x < y) ∧ (∀ i, i ∈ victims ↔ owns i) ∧
      (owns j ∨ (s.insts[j]).state = .free) ∧ (∀ i, i < j → ¬ owns i ∧ (s.insts[i]).state ≠ .free) ∧
      (let stopped : State := victims.foldl (fun t i => endSteps i .preempted (some c) t) s
       let t := admitScene j c o stopped
       request c o s = (rescan (reported (some j) .admitted t), .admitted j) ∧
       (∀ i : InstIx, i ≠ j → (t.insts[i]).state = if i ∈ victims then .free else (s.insts[i]).state) ∧
       t.waitList = s.waitList ∧
       (∀ g ∈ r.groups, t.groups[g] = { s.groups[g] with owner := some j }) ∧
       (∀ z ∈ r.zones, t.zones[z] = { s.zones[z] with owner := some j }) ∧
       (∀ a ∈ r.axes, t.axes[a] = { s.axes[a] with owner := some j }) ∧
       (∀ (l : LineIx) (k : SlotIx), (∀ g : GroupIx, g ∉ r.groups → (l, k) ∉ (s.groups[g]).members) →
         t.fade l k = s.fade l k) ∧
       ∀ i, owns i →
         (∀ g ∈ (s.sceneOf i).groups, g ∉ r.groups → (s.groups[g]).owner = some i → (t.groups[g]).owner = none) ∧
         (∀ z ∈ (s.sceneOf i).zones, z ∉ r.zones → (s.zones[z]).owner = some i →
           (t.zones[z]).owner = none ∧ (t.zones[z]).clipState = .none ∧ (t.zones[z]).sceneQ = []) ∧
         ∀ a ∈ (s.sceneOf i).axes, a ∉ r.axes → (s.axes[a]).owner = some i →
           (t.axes[a]).owner = none ∧ (t.axes[a]).state ≠ .moving ∧
             (t.axes[a]).pos = (s.axes[a]).position s.now)) ∧
    (¬ wins → 0 < r.waitLimit → s.bayState r.bay ≠ .service → s.waitList.length < 8 →
      ∃ before after : List WaitEntry, s.waitList = before ++ after ∧ (∀ w ∈ before, r.priority ≤ w.priority) ∧
        (∀ w, after.head? = some w → w.priority < r.priority) ∧
        request c o s =
          (reported none .waiting
            { s with
              waitList := before ++
                { scene := c, origin := o, priority := r.priority, enqueued := s.now,
                  expiry := later s.now r.waitLimit } :: after }, .waiting))) ∧
  (∀ (e : WaitEntry) (s : State),
    let r := s.scenes[e.scene]
    let unowned := (∀ g ∈ r.groups, (s.groups[g]).owner = none) ∧ (∀ z ∈ r.zones, (s.zones[z]).owner = none) ∧
      ∀ a ∈ r.axes, (s.axes[a]).owner = none
    let permitted := permission (s.bayState r.bay) r.flags e.origin = none
    (¬ permitted ∨ ¬ unowned ∨ (∀ i : InstIx, (s.insts[i]).state ≠ .free) → rescanEntry e s = s) ∧
    ∀ i : InstIx, permitted → unowned → (s.insts[i]).state = .free →
      (∀ j : InstIx, j < i → (s.insts[j]).state ≠ .free) →
      rescanEntry e s =
        (let t := admitScene i e.scene e.origin
           { s with waitList := s.waitList.filter (fun x => decide (x.scene ≠ e.scene)) }
         if r.flags.report = true then offerReport (.scene e.scene (some i) e.origin .admitted) t else t)) ∧
  ∀ s : State, rescan s = s.waitList.foldl (fun t e => rescanEntry e t) s ∧
    (rescan s).waitList.Sublist s.waitList ∧ ∀ e ∈ (rescan s).waitList, rescanEntry e (rescan s) = rescan s

/-- STOP SCENE ends the scene's busy instance: its cue engine fields are cleared, what it owned is free again, the scene's
ready time is a cooldown ahead, and it is FREE, and whatever the wait list holds this is the end and the re-scan of
`PreemptionAndRescan`; or it removes the scene's wait entry with its report; or it acts on nothing and says so (R108, R116,
R118, R121, R123; a cooldown of 0 sets no flag: log entry 13). A STOP press makes the same stop request (R97; `Press`). -/
def Obligations.StopScene : Prop :=
  ∀ (c : SceneIx) (s : State),
    let r := s.scenes[c]
    let run := stopRequest c s
    (∀ tag : Byte, atHead { tag := tag, code := 0x41, ops := [byte c.val] } s = true →
      exec (.stopScene tag [byte c.val]) s =
        .next (replied tag 0x41 { status := .ok, detail := .stopped run.2 } run.1)) ∧
    (∀ i : InstIx, (s.insts[i]).state ≠ .free → (s.insts[i]).scene = c →
      (∀ j : InstIx, j < i → (s.insts[j]).state = .free ∨ (s.insts[j]).scene ≠ c) →
      run = (rescan (endSteps i .stopped none s), true)) ∧
    (∀ i : InstIx, (s.insts[i]).state ≠ .free → (s.insts[i]).scene = c →
      (∀ j : InstIx, (s.insts[j]).state ≠ .free → (s.insts[j]).scene = c → j = i) → s.waitList = [] →
      ∃ t, run = (t, true) ∧
        s.sameBut t [.insts, .fades, .groups, .zones, .pool, .axes, .scenes, .trunk, .checks] ∧
        t.insts[i] =
          { s.insts[i] with
            state := .free, due := none, wait := none, loopOwner := none, loopCount := 0, remDue := none,
            remWait := none } ∧
        (∀ g ∈ r.groups, (s.groups[g]).owner = some i → (t.groups[g]).owner = none) ∧
        (∀ z ∈ r.zones, (s.zones[z]).owner = some i →
          (t.zones[z]).owner = none ∧ (t.zones[z]).clipState = .none ∧ (t.zones[z]).sceneQ = []) ∧
        (∀ a ∈ r.axes, (s.axes[a]).owner = some i →
          (t.axes[a]).owner = none ∧ (t.axes[a]).state ≠ .moving ∧
            (t.axes[a]).pos = (s.axes[a]).position s.now) ∧
        othersSame s.scenes t.scenes c ∧
        t.scenes[c] =
          { s.scenes[c] with ready := later s.now r.cooldown, cooling := decide (r.cooldown ≠ 0) }) ∧
    ((∀ i : InstIx, (s.insts[i]).state ≠ .free → (s.insts[i]).scene ≠ c) →
      (∀ before w after, s.waitList = before ++ w :: after → w.scene = c →
        (∀ x ∈ before ++ after, x.scene ≠ c) →
        run = (offerReport (.scene c none w.origin (.waitRemoved .stopped)) { s with waitList := before ++ after }, true)) ∧
      ((∀ w ∈ s.waitList, w.scene ≠ c) → run = (s, false)))

/-! ## Axis reset, reporting, checks -/

/-- RESET AXIS makes an axis UNSYNCED in any state and keeps its commanded position, owner, buckets and counts; with no
instance waiting on it nothing else changes, and each RUNNING instance that waits on a MOVING one passes to its next cue
(R141, R184; that the move's from, to, speed, start and duration stay as they were is the model's choice, log entry 20).
SET REPORTING sets the mode and the mask (R192). CLEAR CHECKS clears the capture and every block's counts, and keeps the
mode, the mask and the lost-report count (R193). -/
def Obligations.ResetAxisReportingChecks : Prop :=
  ∀ (tag : Byte) (s : State),
    (∀ a : AxisIx,
      let ops := [byte a.val]
      atHead { tag := tag, code := 0x50, ops := ops } s = true →
      (s.axes[a]).state ≠ .moving ∨ (∀ i : InstIx, (s.insts[i]).waitsOn (.motion a) = false) →
      exec (.resetAxis tag ops) s = .next (replied tag 0x50 .ok
        { s with
          axes := upd s.axes a (fun x =>
            { x with
              state := .unsynced, pos := x.position s.now, deadline := none, following := 0, lastSent := none }) })) ∧
    (∀ a : AxisIx,
      let ops := [byte a.val]
      atHead { tag := tag, code := 0x50, ops := ops } s = true → (s.axes[a]).state = .moving → s.mayPass (.motion a) →
      exec (.resetAxis tag ops) s = .next (replied tag 0x50 .ok
        { s with
          insts := s.passedOn (.motion a)
          axes := upd s.axes a (fun x =>
            { x with
              state := .unsynced, pos := x.position s.now, deadline := none, following := 0, lastSent := none }) })) ∧
    (∀ ops : List Byte, atHead { tag := tag, code := 0x60, ops := ops } s = true →
      (ops.length ≠ 2 → exec (.setReporting tag ops) s = .next (replied tag 0x60 (.bad .badFrame) s)) ∧
      ∀ m k : Byte, ops = [m, k] →
        (3 < m.toNat → exec (.setReporting tag ops) s = .next (replied tag 0x60 (.bad .badFrame) s)) ∧
        ∀ mode : Mode, mode.code = m →
          exec (.setReporting tag ops) s = .next (replied tag 0x60 .ok
            { s with
              checks :=
                { s.checks with
                  mode := mode
                  mask :=
                    { trigger := k.getLsbD 0, scene := k.getLsbD 1, bay := k.getLsbD 2, pace := k.getLsbD 3
                      check := k.getLsbD 4 } } })) ∧
    (∀ ops : List Byte, atHead { tag := tag, code := 0x61, ops := ops } s = true →
      (ops ≠ [] → exec (.clearChecks tag ops) s = .next (replied tag 0x61 (.bad .badFrame) s)) ∧
      (ops = [] →
        ∃ t, exec (.clearChecks tag ops) s = .next (replied tag 0x61 .ok t) ∧
          s.sameBut t [.checks, .trunk, .lines, .bays, .triggers, .zones, .pool, .axes] ∧
          t.checks =
            { s.checks with classes := Vector.replicate 8 { seen := false, count := 0 }, context := none } ∧
          t.trunk = { s.trunk with linkErrors := 0, downDrops := 0, returnDrops := 0, busyDiscards := 0 } ∧
          (∀ l : LineIx, t.lines[l] = { s.lines[l] with replyErrors := 0 }) ∧
          (∀ b : BayIx, t.bays[b] = { s.bays[b] with underflow := 0, overflow := 0, ignored := 0 }) ∧
          (∀ e : TrigIx, t.triggers[e] = { s.triggers[e] with dropped := 0 }) ∧
          (∀ z : ZoneIx, t.zones[z] = { s.zones[z] with drops := 0 }) ∧
          t.pool = { s.pool with unknownZone := 0 } ∧
          ∀ a : AxisIx, t.axes[a] = { s.axes[a] with clamps := 0 }))

/-! ## Frames of a line, levels and fades -/

/-- Every due frame start runs its stages: the loads are taken up, UNSYNCED axes without feedback are synchronised at KL,
the 48 slot periods, the sent record and the reply windows are fixed, what the axes were sent is noted, and the block
window is filled (R19; in this order: log entry 14). A take-up makes the loaded records, parameters and curves those in
force, forgets the previous words of changed slots, returns fades of a changed kind to base, and evaluates the INTRUSION
entries of each changed slot in ascending order (R22, R61, R81, R101). The other stages are spelled record by record (R25,
R28, R29, R172); `BlockWindow` says what filling the window does. Where no INTRUSION entry exists and no zone of the line
has a chunk to send, the whole next state is that of these stages alone, and an axis keeps its last sent value unless it is
synchronised (then none) or its setpoint slot sent a value in this frame (R172). -/
def Obligations.FrameStart : Prop :=
  (∀ (l : LineIx) (d : Time) (s : State), (s.lines[l]).nextStart = some d → reached s.now d = true →
    exec (.frameStart l) s = .next (fillWindow l (noteLastSent l (fixContents l (syncAtStart l (takeUpLoads l
      { s with lines := upd s.lines l (fun x => { x with nextStart := none, frame := some s.now }) })))))) ∧
  (∀ (l : LineIx) (s : State),
    let e := s.lines[l]
    let changed := (List.finRange 48).filter (fun k => decide (e.loaded[k] ≠ e.inForce[k]))
    let taken : State :=
      { s with
        lines := upd s.lines l (fun x =>
          { x with
            inForce := e.loaded, params := e.loadedParams
            prev := tabulate 48 (fun k => if e.loaded[k] = e.inForce[k] then e.prev[k] else none) })
        curvesInForce := upd s.curvesInForce l (fun _ => s.curves)
        fades := upd s.fades l (fun row =>
          tabulate 48 (fun k =>
            if (e.loaded[k]).kind = (e.inForce[k]).kind then row[k] else { row[k] with state := .atBase, deadline := none })) }
    takeUpLoads l s = changed.foldl (fun t k => evaluateSlot l k t) taken) ∧
  (∀ (l : LineIx) (s : State),
    (syncAtStart l s =
      { s with
        axes := tabulate 24 (fun a =>
          let x := s.axes[a]
          if x.state = .unsynced ∧ x.setpoint.1 = l ∧ x.feedback = none then
            { x with state := .idle, pos := x.kl, following := 0, lastSent := none }
          else x) }) ∧
    (∀ k : SlotIx,
      let e := s.lines[l]
      let r := s.slot l k
      (e.params.mask.getLsbD k.val = true ∨ r.kind = .off → slotContent s l k = .quiet) ∧
      (e.params.mask.getLsbD k.val = false →
        (r.kind = .level ∨ r.kind = .gain → slotContent s l k =
          .value r.node (match (s.parks[l])[k] with | some p => p | none => slotValue s l k)) ∧
        (r.kind = .axis → slotContent s l k =
          if (s.axes[r.axis]).state = .unsynced then .quiet else .value r.node ((s.axes[r.axis]).position s.now)) ∧
        (r.kind = .reply → slotContent s l k = .poll r.node))) ∧
    (fixContents l s =
      { s with
        lines := upd s.lines l (fun x =>
          { x with
            content := tabulate 48 (fun k => slotContent s l k)
            sent := tabulate 48 (fun k =>
              match (s.slot l k).kind, slotContent s l k with | .axis, .value _ v => some v | _, _ => none)
            windows := tabulate 48 (fun k => match slotContent s l k with | .poll _ => .opened | _ => .none) }) }) ∧
    noteLastSent l s =
      { s with
        axes := tabulate 24 (fun a =>
          let x := s.axes[a]
          let r := s.slot l x.setpoint.2
          if x.setpoint.1 = l ∧ r.kind = .axis ∧ r.axis = a ∧ x.state ≠ .unsynced then
            { x with lastSent := match ((s.lines[l]).sent)[x.setpoint.2] with | some v => some v | none => x.lastSent }
          else x) }) ∧
  (∀ (l : LineIx) (d : Time) (s : State), (s.lines[l]).nextStart = some d → reached s.now d = true →
     (∀ e : TrigIx, (s.triggers[e]).action.kind ≠ .intrusion) →
     (∀ z : ZoneIx, (s.zones[z]).line = l →
       (s.zones[z]).announceQ = [] ∧ (s.zones[z]).sceneQ = [] ∧ (s.zones[z]).ambientQ = []) →
     ∃ t, exec (.frameStart l) s = .next t ∧ s.sameBut t [.lines, .curvesInForce, .fades, .axes] ∧
       othersSame s.lines t.lines l ∧
       (let e := s.lines[l]
        let f := t.lines[l]
        f =
           { e with
             nextStart := none, frame := some s.now, inForce := e.loaded, params := e.loadedParams, block := [],
             prev := f.prev, content := f.content, sent := f.sent, windows := f.windows } ∧
         (∀ k : SlotIx, f.prev[k] = if e.loaded[k] = e.inForce[k] then e.prev[k] else none) ∧
         (∀ m : LineIx, t.curvesInForce[m] = if m = l then s.curves else s.curvesInForce[m]) ∧
         (∀ (m : LineIx) (k : SlotIx),
           t.fade m k = if m = l ∧ (e.loaded[k]).kind ≠ (e.inForce[k]).kind then (s.fade m k).toBase else s.fade m k) ∧
         (∀ a : AxisIx,
           let x := s.axes[a]
           t.axes[a] =
             if x.state = .unsynced ∧ x.setpoint.1 = l ∧ x.feedback = none then
               { x with state := .idle, pos := x.kl, following := 0, lastSent := (t.axes[a]).lastSent }
             else { x with lastSent := (t.axes[a]).lastSent }) ∧
         (∀ a : AxisIx,
          let x := s.axes[a]
          let r := e.loaded[x.setpoint.2]
          let kept : Option Nat :=
            if x.state = .unsynced ∧ x.setpoint.1 = l ∧ x.feedback = none then none else x.lastSent
          (t.axes[a]).lastSent =
            if x.setpoint.1 = l ∧ r.kind = .axis ∧ r.axis = a then
              match f.sent[x.setpoint.2] with | some v => some v | none => kept
            else kept) ∧
         (∀ (a : AxisIx) (v : Nat), (s.axes[a]).setpoint.1 = l → (e.loaded[(s.axes[a]).setpoint.2]).kind = .axis →
           (e.loaded[(s.axes[a]).setpoint.2]).axis = a → f.sent[(s.axes[a]).setpoint.2] = some v →
           (t.axes[a]).lastSent = some v) ∧
         ∀ k : SlotIx,
           let r := e.loaded[k]
           (e.loadedParams.mask.getLsbD k.val = true ∨ r.kind = .off → f.content[k] = .quiet) ∧
           (e.loadedParams.mask.getLsbD k.val = false →
             (r.kind = .level ∨ r.kind = .gain → f.content[k] =
               .value r.node (match (s.parks[l])[k] with | some p => p | none => slotValue t l k)) ∧
             (r.kind = .axis → f.content[k] =
               if (t.axes[r.axis]).state = .unsynced then .quiet
               else .value r.node ((t.axes[r.axis]).position s.now)) ∧
             (r.kind = .reply → f.content[k] = .poll r.node)) ∧
           f.sent[k] = (match r.kind, f.content[k] with | .axis, .value _ v => some v | _, _ => none) ∧
           f.windows[k] = (match f.content[k] with | .poll _ => .opened | _ => .none)))

/-- The level a LEVEL or GAIN slot sends: base, master, work floor, curve and ceiling, stage by stage, and at most the
ceiling (R63, R65, R66, R68, R69, R70). -/
def Obligations.LevelStages : Prop :=
  ∀ (s : State) (l : LineIx) (k : SlotIx),
    let r := s.slot l k
    let f := s.fade l k
    let bay := s.bays[r.bay]
    let base : Nat :=
      match r.patch with
      | some (w, c) => if (s.watch[w]).received then ((s.watch[w]).image[c]).toNat * 257 else 0
      | none => 0
    let target : Nat := match f.target with | .fixed n => n | .base => base
    let fading := fadeAt f.start target (min (s.now - f.t0).toNat f.duration) f.duration
    let w : Nat :=
      match f.state, r.merge with
      | .atBase, _ => base
      | .holding, .take => target
      | .holding, .highest => max base target
      | .frozen, .take => f.start
      | .frozen, .highest => max base f.start
      | .fading, .take => fading
      | .fading, .highest => max base fading
    let m : Nat :=
      if bay.state = .dark then 0
      else if r.kind = .gain then bay.audioMaster
      else
        match bay.state with
        | .attract => bay.attractMaster
        | .live | .hold => bay.liveMaster
        | .service => 255
        | .dark => 0
    let l1 := (w * m + 127) / 255
    let lit := r.kind = .level ∧ r.workLight = true ∧ (bay.state = .dark ∨ bay.state = .hold ∨ bay.state = .service)
    let l2 := if lit then max l1 bay.workFloor else l1
    let c := if r.curve = 0 then l2 else ((s.curvesInForce[l])[r.curve]).shape l2
    base ≤ 65535 ∧ workingLevel s l k = w ∧ slotValue s l k = min c r.ceiling

/-- The arithmetic of a running fade and of a curve: a fade runs from its start level to its target within its duration,
each step rounded to the nearest, and never leaves the range between them (R64); a curve passes through its points, stays
between two neighbours, and the identity points give x up to 63,488 and x − 1 above (R69). -/
def Obligations.FadeAndCurveArithmetic : Prop :=
  (∀ start target e d : Nat, 0 < d → e ≤ d →
    let v := fadeAt start target e d
    (e = 0 → v = start) ∧ (e = d → v = target) ∧ min start target ≤ v ∧ v ≤ max start target ∧
      (start ≤ target →
        2 * (d * (v - start)) ≤ 2 * ((target - start) * e) + d ∧
          2 * ((target - start) * e) < 2 * (d * (v - start)) + d) ∧
      (target ≤ start →
        2 * (d * (start - v)) ≤ 2 * ((start - target) * e) + d ∧
          2 * ((start - target) * e) < 2 * (d * (start - v)) + d)) ∧
  (∀ (c : Curve) (i : Fin 16), c.shape (4096 * i.val) = c.point i.val ∧
    ∀ f : Nat, f < 4096 →
      min (c.point i.val) (c.point (i.val + 1)) ≤ c.shape (4096 * i.val + f) ∧
        c.shape (4096 * i.val + f) ≤ max (c.point i.val) (c.point (i.val + 1))) ∧
  ∀ x : Nat, x ≤ 65535 → identityCurve.shape x = if x ≤ 63488 then x else x - 1

/-- Fade requests: a start passes over a slot that carries no level, ends at once for time 0 and else runs for its time
from the working level (R77); a freeze keeps the working level and the remaining time (R79), a resume runs the kept
remaining time toward the kept target (R80), a base request stands at base (R82), and a release fades toward BASE unless
the slot is AT_BASE (R87). No other fade record changes. A group fade starts one fade for each member of the group,
in member order, each from its own working level, and changes nothing else (R86, R135). That a start on a FROZEN record
leaves its remaining-time field as it was, without effect, is the model's choice (log entry 43). -/
def Obligations.FadeActs : Prop :=
  (∀ (l : LineIx) (k : SlotIx) (g : Target) (time : Nat) (s : State),
     let f := s.fade l k
     let lit := (s.slot l k).kind = .level ∨ (s.slot l k).kind = .gain
     let set (x : FadeRec) : State := { s with fades := upd s.fades l (fun row => row.set k x) }
     let ended (x : Target) : FadeState := match x with | .fixed _ => .holding | .base => .atBase
     let begun (start : Nat) (x : Target) (d : Nat) : FadeRec :=
       { f with
         start := start, target := x, t0 := s.now, duration := d, state := if d = 0 then ended x else .fading,
         deadline := if d = 0 then none else some (later s.now d) }
     (¬ lit → fadeStart l k g time s = s) ∧
     (lit → fadeStart l k g time s = set (begun (workingLevel s l k) g (min time 600000))) ∧
     (f.state ≠ .fading → freezeMember l k s = s) ∧
     (f.state = .fading → freezeMember l k s = set
       { f with
         state := .frozen, start := workingLevel s l k, deadline := none
         remaining := f.duration - min (s.now - f.t0).toNat f.duration }) ∧
     (f.state ≠ .frozen → resumeMember l k s = s) ∧
     (f.state = .frozen → resumeMember l k s = set (begun f.start f.target f.remaining)) ∧
     baseRequest l k s = set { f with state := .atBase, deadline := none } ∧
     (f.state = .atBase ∨ ¬ lit → releaseMember time l k s = s) ∧
     (f.state ≠ .atBase → lit → releaseMember time l k s = set (begun (workingLevel s l k) .base (min time 600000)))) ∧
  ∀ (g : GroupIx) (x : Target) (time : Nat) (s : State),
    let ms := (s.groups[g]).members
    let t := groupFade g x time s
    t = ms.foldl (fun v m => fadeStart m.1 m.2 x time v) s ∧ s.sameBut t [.fades] ∧
    ∀ (l : LineIx) (k : SlotIx),
      ((l, k) ∉ ms → t.fade l k = s.fade l k) ∧
      (ms.Nodup → (l, k) ∈ ms → t.fade l k = (fadeStart l k x time s).fade l k)

/-- A reply window of a frame in progress closes: with no word it is missed, with a word of even parity it is valid, and
with a bad word it is missed, counted and checked (R29). That a row for a window that is not open changes nothing is
the model's choice (log entry 4). -/
def Obligations.ReplyWindowCloses : Prop :=
  ∀ (l : LineIx) (k : SlotIx) (word : Option (BitVec 17)) (s : State),
    let e := s.lines[l]
    let even (w : BitVec 17) := ((List.range 17).filter (fun n => w.getLsbD n)).length % 2 = 0
    (e.frame = none ∨ e.windows[k] ≠ .opened → exec (.replyWindow l k word) s = .next s) ∧
    (e.frame.isSome = true → e.windows[k] = .opened →
      (word = none → exec (.replyWindow l k word) s = .next
        { s with lines := upd s.lines l (fun x => { x with windows := x.windows.set k .missed }) }) ∧
      ∀ w, word = some w →
        (even w → exec (.replyWindow l k word) s = .next
          { s with
            lines := upd s.lines l (fun x => { x with windows := x.windows.set k (.valid (w.setWidth 16)) }) }) ∧
        (¬ even w → exec (.replyWindow l k word) s = .next
          (raiseCheck (.reply l k (s.slot l k).node) none
            { s with
              lines := upd s.lines l (fun x =>
                { x with windows := x.windows.set k .missed, replyErrors := min (x.replyErrors + 1) 65535 }) })))

/-- What a frame end leaves of its line (R19, R21, R30, R31, R32, R35): the window's chunks are gone; with a stop pending
the line is OFF with its nodes UNKNOWN and no previous words; else the next frame start stands one interval after this
frame's start, every node is settled on its windows, and each slot's valid TRIGGER word is its previous word. No other
line changes. The model's choices: a window still open counts as missed (log entry 22), and what the frame carried, its
contents, sent record and windows, stays in the record after its end (log entry 25). The frame end is its refills, its
words, its nodes in ascending order, its chunks and its stop or next start, in this order (R30; log entry 15). -/
def Obligations.FrameEnd : Prop :=
  ∀ (l : LineIx) (start : Time) (s : State), (s.lines[l]).frame = some start →
    ∃ t, exec (.frameEnd l) s = .next t ∧ othersSame s.lines t.lines l ∧
      t = endFrame l start (completeWindow l start
        ((List.finRange 16).foldl (fun v n => settleNode l n v) (replyWords l (refillLine l s)))) ∧
      (let e := s.lines[l]
       let f := t.lines[l]
       f =
          { e with
            running := if e.stopPending then false else e.running, stopPending := false, frame := none, block := [],
            nextStart := if e.stopPending then none else some (later start e.params.interval)
            nodes := f.nodes, prev := f.prev } ∧
        (e.stopPending = true → ∀ (n : NodeIx) (k : SlotIx),
          f.nodes[n] = { presence := .unknown, misses := 0 } ∧ f.prev[k] = none) ∧
        (e.stopPending = false →
          (∀ k : SlotIx, f.prev[k] =
            match e.windows[k], (e.inForce[k]).replyKind with
            | .valid w, .trigger => some w
            | _, _ => e.prev[k]) ∧
          ∀ n : NodeIx,
            let polled (k : SlotIx) : Prop := e.windows[k] ≠ .none ∧ (e.inForce[k]).node = n
            let answered := ∃ k : SlotIx, polled k ∧ (e.windows[k]).isValid = true
            ((∀ k, ¬ polled k) → f.nodes[n] = { presence := .unknown, misses := 0 }) ∧
            (answered → f.nodes[n] = { presence := .present, misses := 0 }) ∧
            ((∃ k, polled k) → ¬ answered →
              let misses := min ((e.nodes[n]).misses + 1) 3
              f.nodes[n] =
                { presence := if misses = 3 then .absent else (e.nodes[n]).presence, misses := misses })))

/-! ## Bays and triggers -/

/-- The expiries of a bay: the linger expiry takes a LIVE bay to ATTRACT (R41), and the hold release expiry removes SENSOR
and takes a bay in HOLD with no cause left to ATTRACT or LIVE (R43, R46). -/
def Obligations.BayExpiries : Prop :=
  ∀ (b : BayIx) (d : Time) (s : State), reached s.now d = true →
    let r := s.bays[b]
    (r.linger = some d →
      let u : State := { s with bays := upd s.bays b (fun q => { q with linger := none }) }
      (r.state = .live →
        ∃ t, exec (.lingerExpiry b) s = .next t ∧ entersState b .attract .linger u t ∧
          (t.bays[b]).linger = none ∧ (t.bays[b]).state = .attract) ∧
      (r.state ≠ .live → exec (.lingerExpiry b) s = .next u)) ∧
    (r.holdRelease = some d →
      let u : State :=
        { s with
          bays := upd s.bays b (fun q => { q with holdRelease := none, causes := { q.causes with sensor := false } }) }
      (r.state = .hold → r.causes.command = false → r.causes.fault = false →
        ∃ t, exec (.holdReleaseExpiry b) s = .next t ∧
          entersState b (if r.occupancy = 0 then .attract else .live) .sensorClear u t) ∧
      (r.state ≠ .hold ∨ r.causes.command = true ∨ r.causes.fault = true →
        exec (.holdReleaseExpiry b) s = .next u))

/-- What a bay does with an ENTER, a LEAVE, an intrusion notice and an axis fault notice (R40, R42, R44). -/
def Obligations.BayInputs : Prop :=
  ∀ (b : BayIx) (e : TrigIx) (s : State),
    let r := s.bays[b]
    let set (x : Bay) : State := { s with bays := upd s.bays b (fun _ => x) }
    (r.occupancy = 250 → enterBay b s = set { r with overflow := min (r.overflow + 1) 65535 }) ∧
    (r.occupancy ≠ 250 →
      (r.state = .attract → r.occupancy = 0 → entersState b .live .entered (set { r with occupancy := 1 }) (enterBay b s)) ∧
      (r.state ≠ .attract ∨ 0 < r.occupancy → enterBay b s =
        set { r with occupancy := r.occupancy + 1, linger := if r.state = .live then none else r.linger })) ∧
    (r.occupancy = 0 → leaveBay b s = set { r with underflow := min (r.underflow + 1) 65535 }) ∧
    (0 < r.occupancy → leaveBay b s = set
      { r with
        occupancy := r.occupancy - 1
        linger := if r.state = .live ∧ r.occupancy = 1 then some (later s.now r.lingerTime) else r.linger }) ∧
    ((e ∈ r.intrusions → intrusionNotice e b true s = s) ∧ (e ∉ r.intrusions → intrusionNotice e b false s = s)) ∧
    (r.intrusions = [] →
      let q : Bay := { r with intrusions := [e], holdRelease := none, causes := { r.causes with sensor := true } }
      (r.causes.sensor = false → r.state = .attract ∨ r.state = .live →
        entersState b .hold .sensor (set q) (intrusionNotice e b true s)) ∧
      (r.causes.sensor = true ∨ (r.state ≠ .attract ∧ r.state ≠ .live) → intrusionNotice e b true s = set q)) ∧
    (r.intrusions ≠ [] → e ∉ r.intrusions →
      intrusionNotice e b true s = set { r with intrusions := r.intrusions ++ [e] }) ∧
    (r.intrusions = [e] → intrusionNotice e b false s =
      set { r with intrusions := [], holdRelease := some (later s.now r.holdReleaseTime) }) ∧
    (∀ x ∈ r.intrusions, x ≠ e → e ∈ r.intrusions →
      intrusionNotice e b false s = set { r with intrusions := r.intrusions.filter (fun y => y ≠ e) }) ∧
    (let q : Bay := { r with causes := { r.causes with fault := true } }
     faultNotice b false s = s ∧
      (r.state = .attract ∨ r.state = .live → entersState b .hold .fault (set q) (faultNotice b true s)) ∧
      (r.state = .hold → faultNotice b true s = set q) ∧
      (r.state = .dark ∨ r.state = .service → faultNotice b true s = s))

/-- A bay change is taken once by each of four blocks, in an order the manual leaves open (R45, R143, R180, log entry 3).
The Admission Unit removes the wait entries of a bay that becomes DARK or SERVICE (from head to tail: the model's choice,
log entry 31), ends with cause BAY the instances the new state does not permit, and re-scans (R119); the Cue Engine
suspends at an entry to HOLD and resumes at a change from HOLD to ATTRACT or LIVE (R143); the Narration Buffer empties the
zones of a bay that becomes DARK (R166); and the Motion Governor halts the MOVING axes of a bay that becomes DARK, HOLD or
SERVICE, which completes the waits on them (R180). Cues that these freezes made due at once may run before a later block
has the change (R180): the model runs all of them or none, in ascending instance number (log entry 39). The model's choices
besides: what runs off cue 2,047 within a block's act ends once that act is done, after all resumes and halts (log entries
10 and 33), each block takes the change whole, none between two freezes of the Motion Governor (log entry 44), and a halted
axis keeps its move's from, to, speed, start and duration (log entry 20). -/
def Obligations.BayChangeTaken : Prop :=
  ∀ (b : BayIx) (old new : BayState) (s : State),
    (∃ (order : List Taker) (early : Bool) (n : Nat), order.Perm [.admission, .cues, .narration, .motion] ∧
      (n = s.choices ∨ n = s.choices + 1) ∧
      handOver b old new s = order.foldl (fun t k => Taker.take b old new early k t) { s with choices := n }) ∧
    (∀ early : Bool, Taker.take b old new early .admission s = admissionBayChange b new s ∧
      Taker.take b old new early .cues s = endRunOff (cueBayChange b old new s) ∧
      Taker.take b old new early .narration s = narrationBayChange b new s) ∧
    Taker.take b old new false .motion s = endRunOff (motionBayChange b new s) ∧
    (let t := endRunOff (motionBayChange b new s)
     let due := (List.finRange 12).filter (fun i =>
       decide ((s.insts[i]).wait.isSome = true ∧ (t.insts[i]).wait = none ∧ (t.insts[i]).state = .running) &&
         (match (t.insts[i]).due with | some d => reached t.now d | none => false))
     Taker.take b old new true .motion s = due.foldl (fun v i => dueIfReached i v) t ∧
     ∀ (i : InstIx) (v : State), exec (.dueEvent i) v = .next (dueIfReached i v)) ∧
    (let gone : List WaitEntry :=
       if new = .dark ∨ new = .service then s.waitList.filter (fun e => decide ((s.scenes[e.scene]).bay = b)) else []
     let reason : RemoveReason := if new = .dark then .bayClosed else .bayState
     let removed : State :=
       gone.foldl (fun t e =>
         offerReport (.scene e.scene none e.origin (.waitRemoved reason))
           { t with waitList := t.waitList.filter (fun x => decide (x.scene ≠ e.scene)) }) s
     let leaves (n : Inst) (f : SceneFlags) : Bool :=
       match new with
       | .dark => true
       | .service => decide (n.state = .suspended ∨ n.origin ≠ .command)
       | .attract => !f.attract
       | .live => !f.live
       | .hold => f.holdAbort && !f.safety
     let ended := (List.finRange 12).filter (fun i =>
       decide ((s.insts[i]).state ≠ .free ∧ (s.sceneOf i).bay = b) && leaves s.insts[i] (s.sceneOf i).flags)
     admissionBayChange b new s = rescan (ended.foldl (fun t i => endSteps i .bay none t) removed)) ∧
    (let suspended := (List.finRange 12).filter (fun i =>
       decide ((s.insts[i]).state = .running ∧ (s.sceneOf i).bay = b ∧ (s.sceneOf i).flags.safety = false ∧
         (s.sceneOf i).flags.holdAbort = false))
     let resumed := (List.finRange 12).filter (fun i =>
       decide ((s.insts[i]).state = .suspended ∧ (s.sceneOf i).bay = b ∧
         ((new = .attract ∧ (s.sceneOf i).flags.attract = true) ∨ (new = .live ∧ (s.sceneOf i).flags.live = true))))
     (new = .hold → cueBayChange b old new s = (suspended.foldl (fun t i => suspend i t) s, [])) ∧
     (old = .hold → new ≠ .hold → cueBayChange b old new s =
       resumed.foldl (fun t i => ((resume i t.1).1, t.2 ++ (resume i t.1).2)) (s, [])) ∧
     (old ≠ .hold → new ≠ .hold → cueBayChange b old new s = (s, []))) ∧
    (new ≠ .dark → narrationBayChange b new s = s) ∧
    (let t := narrationBayChange b .dark s
     let held (z : ZoneIx) : List Chunk :=
       if (s.zones[z]).bay = b then (s.zones[z]).announceQ ++ (s.zones[z]).sceneQ ++ (s.zones[z]).ambientQ else []
     let blocks (z : ZoneIx) : Nat := ((held z).map (fun c => (c.audio.length + 95) / 96)).sum
     s.sameBut t [.zones, .pool, .fades, .trunk, .checks] ∧
     t.pool = { s.pool with free := s.pool.free + ((List.finRange 24).map blocks).sum } ∧
     (∀ z : ZoneIx, t.zones[z] =
       let q := s.zones[z]
       if q.bay = b then
         { q with
           announceQ := [], sceneQ := [], ambientQ := [], usage := q.usage - blocks z, voiceActive := false
           paused := q.paused && decide (held z = [] ∨ q.resumeLevel ≤ q.usage - blocks z) }
       else q) ∧
     ∀ (l : LineIx) (k : SlotIx),
       ((∃ z : ZoneIx, (s.zones[z]).bay = b ∧ (s.zones[z]).bedSlot = some (l, k)) →
         t.fade l k = (s.fade l k).toBase) ∧
       ((∀ z : ZoneIx, (s.zones[z]).bay = b → (s.zones[z]).bedSlot ≠ some (l, k)) → t.fade l k = s.fade l k)) ∧
    (let halts (a : AxisIx) : Prop :=
       (new = .dark ∨ new = .hold ∨ new = .service) ∧ (s.axes[a]).bay = b ∧ (s.axes[a]).state = .moving
     let r := motionBayChange b new s
     s.sameBut r.1 [.axes, .insts, .trunk, .checks] ∧
     (∀ a : AxisIx, r.1.axes[a] =
       if halts a then { s.axes[a] with state := .idle, pos := (s.axes[a]).position s.now, deadline := none }
       else s.axes[a]) ∧
     ((∀ a : AxisIx, halts a → s.mayPass (.motion a)) →
       r.2 = [] ∧ r.1.trunk = s.trunk ∧ r.1.checks = s.checks ∧
       ∀ i : InstIx,
         ((∃ a : AxisIx, halts a ∧ (s.insts[i]).waitsOn (.motion a) = true) → r.1.insts[i] = (s.insts[i]).passed s) ∧
         ((∀ a : AxisIx, halts a → (s.insts[i]).waitsOn (.motion a) = false) → r.1.insts[i] = s.insts[i])))

/-- A press: ignored in a closed bay and, unless it serves a SAFETY scene, in HOLD; dropped without a credit; else it
spends a credit and meets every wait on its entry, or sends its request, stop or nothing (R53, R94, R95, R96, R97). With
the report flag of its entry the press is reported with its outcome (R102), before or after what it sends (log
entry 3). -/
def Obligations.Press : Prop :=
  ∀ (e : TrigIx) (b : BayIx) (g : Edge) (s : State),
    let r := s.triggers[e]
    let state := s.bayState b
    let waits (i : InstIx) : Prop :=
      (s.insts[i]).state = .running ∧ ∃ w, (s.insts[i]).wait = some w ∧ w.on = .trigger e
    let safety := (∃ c, (r.action = .start c ∨ r.action = .stop c) ∧ (s.scenes[c]).flags.safety = true) ∨
      ∃ i, waits i ∧ (s.sceneOf i).flags.safety = true
    let passes := state = .attract ∨ state = .live ∨ (state = .hold ∧ safety)
    let spent : State := { s with triggers := upd s.triggers e (fun q => { q with credit := q.credit - 1 }) }
    (¬ passes → press e b g s =
      { s with bays := upd s.bays b (fun q => { q with ignored := min (q.ignored + 1) 65535 }) }) ∧
    (passes → r.credit = 0 → press e b g s =
      { s with triggers := upd s.triggers e (fun q => { q with dropped := min (q.dropped + 1) 65535 }) }) ∧
    (passes → 0 < r.credit → r.report = true →
      let report (o : TrigOutcome) : State → State :=
        offerReport (.trigger (some e) r.line r.slot r.bit (some g) (some r.action.kind) o)
      ((∀ i, ¬ waits i) →
        (∀ c, r.action = .start c →
          inSomeOrder (report .startSent) (fun v => (request c .trigger v).1) spent (press e b g s)) ∧
        (∀ c, r.action = .stop c →
          inSomeOrder (report .stopSent) (fun v => (stopRequest c v).1) spent (press e b g s)) ∧
        (∀ x, r.action = .cue x → press e b g s = report .noAction spent)) ∧
      ((∃ i, waits i) → s.mayPass (.trigger e) →
        let n := ((List.finRange 12).filter (fun i => (s.insts[i]).waitsOn (.trigger e))).length
        inSomeOrder (report (.waitMet n)) (fun v => { v with insts := v.passedOn (.trigger e) }) spent
          (press e b g s))) ∧
    (passes → 0 < r.credit → r.report = false →
      ((∀ i, ¬ waits i) →
        (∀ c, r.action = .start c → press e b g s = (request c .trigger spent).1) ∧
        (∀ c, r.action = .stop c → press e b g s = (stopRequest c spent).1) ∧
        (∀ x, r.action = .cue x → press e b g s = spent)) ∧
      ((∃ i, waits i) → (∀ i, waits i → (s.insts[i]).cue.val < 2047) →
        press e b g s =
          { spent with
            insts := tabulate 12 (fun i =>
              let n := s.insts[i]
              let k : Nat := n.cue.val + 1
              if n.waitsOn (.trigger e) = true then
                { n with
                  wait := none, cue := Fin.ofNat 2048 k
                  due := some (later s.now (s.cues[(Fin.ofNat 2048 k : CueIx)]).delay) }
              else n) }))

/-- A valid TRIGGER word (R32, R93, R99 to R102): it becomes its slot's previous word; against the previous word of a
PRESENT node its changed bits are edges, each handled in ascending bit order, and then the INTRUSION entries of its slot
are evaluated in ascending entry order. That the word is compared too where the node had left PRESENT and came back by
another slot's word is the model's choice (log entry 36). An edge goes to the entry of its key: unmatched it may be reported, of the other
direction it is passed over, of an ENTER or LEAVE entry it is counted in the bay, and of a START, STOP or CUE entry it is a
press. An evaluated INTRUSION entry hands on a changed level; reports and what they report come in either order (log
entry 3). A changed presence of a node evaluates the INTRUSION entries of its TRIGGER slots. -/
def Obligations.TriggerWords : Prop :=
  (∀ (l : LineIx) (k : SlotIx) (w : BitVec 16) (s : State),
    let node := (s.slot l k).node
    let u : State := { s with lines := upd s.lines l (fun e => { e with prev := e.prev.set k (some w) }) }
    let edges (old : BitVec 16) : List (BitIx × Edge) :=
      (List.finRange 16).filterMap (fun b =>
        match old.getLsbD b.val, w.getLsbD b.val with
        | false, true => some (b, .rise)
        | true, false => some (b, .fall)
        | _, _ => none)
    (((s.lines[l]).nodes[node]).presence ≠ .present ∨ ((s.lines[l]).prev)[k] = none →
      triggerWord l k w s = evaluateSlot l k u) ∧
    ∀ old, ((s.lines[l]).nodes[node]).presence = .present → ((s.lines[l]).prev)[k] = some old →
      triggerWord l k w s = evaluateSlot l k ((edges old).foldl (fun t x => handleEdge l k x.1 x.2 t) u)) ∧
  (∀ (l : LineIx) (k : SlotIx) (b : BitIx) (g : Edge) (s : State),
    let r := s.slot l k
    let keyed (x : TrigIx) : Prop :=
      (s.triggers[x]).action.kind ≠ .none ∧ (s.triggers[x]).line = l ∧ (s.triggers[x]).slot = k ∧
        (s.triggers[x]).bit = b
    let run := handleEdge l k b g s
    ((∀ x, ¬ keyed x) → run =
      if r.reportUnmatched = true then offerReport (.trigger none l k b (some g) none .unmatched) s else s) ∧
    ∀ x : TrigIx, keyed x → (∀ y, keyed y → y = x) →
      let e := s.triggers[x]
      let report : State → State :=
        offerReport (.trigger (some x) l k b (some g) (some e.action.kind) .counted)
      (e.action.kind = .intrusion ∨ e.edge ≠ g → run = s) ∧
      (e.edge = g →
        (∀ bay, e.action = .enter bay → e.report = false → run = enterBay bay s) ∧
        (∀ bay, e.action = .leave bay → e.report = false → run = leaveBay bay s) ∧
        (∀ bay, e.action = .enter bay → e.report = true → inSomeOrder report (enterBay bay) s run) ∧
        (∀ bay, e.action = .leave bay → e.report = true → inSomeOrder report (leaveBay bay) s run) ∧
        (e.action.kind = .start ∨ e.action.kind = .stop ∨ e.action.kind = .cue → run = press x r.bay g s))) ∧
  (∀ (x : TrigIx) (s : State),
    let e := s.triggers[x]
    let line := s.lines[e.line]
    let r := line.inForce[e.slot]
    let active := r.kind ≠ .reply ∨ r.replyKind ≠ .trigger ∨ (line.nodes[r.node]).presence ≠ .present ∨
      line.prev[e.slot] = none ∨ ∃ w, line.prev[e.slot] = some w ∧ w.getLsbD e.bit.val = true
    let set (level : Bool) : State := { s with triggers := upd s.triggers x (fun q => { q with active := level }) }
    let report (o : TrigOutcome) : State → State :=
      offerReport (.trigger (some x) e.line e.slot e.bit none (some .intrusion) o)
    (e.action.kind ≠ .intrusion → evaluate x s = s) ∧
    ∀ b, e.action = .intrusion b →
      (active → e.active = true → evaluate x s = s) ∧
      (¬ active → e.active = false → evaluate x s = s) ∧
      (active → e.active = false →
        (e.report = false → evaluate x s = intrusionNotice x b true (set true)) ∧
        (e.report = true → inSomeOrder (report .active) (intrusionNotice x b true) (set true) (evaluate x s))) ∧
      (¬ active → e.active = true →
        (e.report = false → evaluate x s = intrusionNotice x b false (set false)) ∧
        (e.report = true → inSomeOrder (report .inactive) (intrusionNotice x b false) (set false) (evaluate x s)))) ∧
  (∀ (l : LineIx) (k : SlotIx) (n : NodeIx) (s : State),
    let keyed (e : TrigEntry) : Prop := e.line = l ∧ e.slot = k
    let polled (e : TrigEntry) : Prop := e.line = l ∧ (s.slot l e.slot).kind = .reply ∧
      (s.slot l e.slot).replyKind = .trigger ∧ (s.slot l e.slot).node = n
    evaluateSlot l k s =
      ((List.finRange 128).filter (fun x => decide (keyed s.triggers[x]))).foldl (fun t x => evaluate x t) s ∧
    evaluateNode l n s =
      ((List.finRange 128).filter (fun x => decide (polled s.triggers[x]))).foldl (fun t x => evaluate x t) s) ∧
  ∀ (l : LineIx) (s : State),
    (∀ (k : SlotIx) (w : BitVec 16), ((s.lines[l]).windows)[k] = .valid w → (s.slot l k).replyKind = .trigger) →
    replyWords l s =
      (List.finRange 48).foldl (fun t k =>
        match ((s.lines[l]).windows)[k] with | .valid w => triggerWord l k w t | _ => t) s

/-! ## Expiries -/

/-- The expiries that act on one record: the stale deadline (R59), a fade's end (R78), the throttle (R98), a ready time
(R108), a wait entry (R118), the next-send times (R164) and a refill deadline (R175). -/
def Obligations.TimerExpiries : Prop :=
  ∀ (s : State),
    (∀ (w : WatchIx) (d : Time), (s.watch[w]).deadline = some d → reached s.now d = true →
      exec (.staleExpiry w) s = .next (raiseCheck (.watch w (s.watch[w]).uni) none
        { s with watch := upd s.watch w (fun r => { r with deadline := none, stale := true }) })) ∧
    (∀ (l : LineIx) (k : SlotIx) (d : Time), (s.fade l k).deadline = some d → reached s.now d = true →
      exec (.fadeEndEvent l k) s = .next
        { s with
          fades := upd s.fades l (fun row => upd row k (fun f =>
            { f with state := match f.target with | .fixed _ => .holding | .base => .atBase, deadline := none })) }) ∧
    (reached s.now s.throttle = true →
      ∃ t, exec .throttleExpiry s = .next t ∧ s.sameBut t [.triggers, .throttle] ∧
        t.throttle = later s.now s.params.throttle ∧
        ∀ e : TrigIx, t.triggers[e] = { s.triggers[e] with credit := (s.triggers[e]).allowance }) ∧
    (∀ c : SceneIx, (s.scenes[c]).cooling = true → reached s.now (s.scenes[c]).ready = true →
      exec (.readyTimeExpiry c) s = .next { s with scenes := upd s.scenes c (fun r => { r with cooling := false }) }) ∧
    (∀ before w after, s.waitList = before ++ w :: after → (∀ x ∈ before ++ after, x.scene ≠ w.scene) →
      reached s.now w.expiry = true →
      exec (.waitEntryExpiry w.scene) s = .next
        (offerReport (.scene w.scene none w.origin (.waitRemoved .expired)) { s with waitList := before ++ after })) ∧
    (∀ (z : ZoneIx) (d : Time), reached s.now d = true →
      ((s.zones[z]).voiceNext = some d → exec (.nextSendExpiry z .voice) s = .next
        { s with zones := upd s.zones z (fun r => { r with voiceNext := none }) }) ∧
      ((s.zones[z]).bedNext = some d → exec (.nextSendExpiry z .bed) s = .next
        { s with zones := upd s.zones z (fun r => { r with bedNext := none }) })) ∧
    ∀ a : AxisIx, reached s.now (s.axes[a]).refillDeadline = true →
      let x := s.axes[a]
      let sum := (s.now - x.refilled).toNat * x.rate + x.residue
      let toC := min (sum / 1000) (x.cbs - x.c)
      let toE := min (sum / 1000 - toC) (x.ebs - x.e)
      exec (.refillDeadlineExpiry a) s = .next
        { s with
          axes := upd s.axes a (fun y =>
            { y with
              c := x.c + toC, e := x.e + toE, residue := if toC + toE < sum / 1000 then 0 else sum % 1000,
              refilled := s.now, refillDeadline := later s.now 600000 }) }

/-! ## Cues, waits and instances -/

/-- A due event executes the cue at the instance's index and those that follow without delay, 16 at most; the next one of
delay 0 is due a millisecond later (R131, R134). Each cue so executed: an invalid cue ends the instance with its check
(R132; that the check names the first failing test is the model's reading, log entry 12); a LIGHT, VOICE or MOVE cue acts
and the list goes on at the next index (R133, R135 to R137); a wait is met at its start or held (R140); END ends the
instance (R139); a JUMP goes on where `JumpCounts` says. Going on at an index means executing its cue within the same event
where its delay is 0, being due after its delay where it is not, and beyond 2,047 an invalid cue, whose check names that
index (log entry 12). A cue that jumps to itself without delay runs 16 times and is due again a millisecond later. The
tests of a cue in cue memory are spelled kind by kind (R132); what a LIGHT cue does to each member of its group is in
`FadeActs`. -/
def Obligations.DueEventCues : Prop :=
  (∀ c : Scene,
    (∀ code ops, cueFault c (.unknown code ops) = some .unknownKind) ∧
    (∀ g base level fade, cueFault c (.light g base level fade) = if g ∈ c.groups then none else some .group) ∧
    (∀ z clip, cueFault c (.voice z clip) = if z ∈ c.zones then none else some .zone) ∧
    (∀ z timeout action, cueFault c (.waitClip z timeout action) = if z ∈ c.zones then none else some .zone) ∧
    (∀ a target speed, cueFault c (.move a target speed) =
      if a ∉ c.axes then some .axis else if c.flags.safety = true then some .safetyMove else none) ∧
    (∀ a timeout action, cueFault c (.waitMotion a timeout action) = if a ∈ c.axes then none else some .axis) ∧
    (∀ e timeout action, cueFault c (.waitTrigger e timeout action) = none) ∧
    (∀ target count, cueFault c (.jump target count) = none) ∧ cueFault c .endScene = none) ∧
  (∀ (i : InstIx) (d : Time) (s : State), (s.insts[i]).due = some d → reached s.now d = true →
    exec (.dueEvent i) s = .next (runCues i 16 { s with insts := upd s.insts i (fun x => { x with due := none }) }) ∧
    ((s.cues[(s.insts[i]).cue]).kind = .jump (s.insts[i]).cue.val 0 → (s.cues[(s.insts[i]).cue]).delay = 0 →
      exec (.dueEvent i) s = .next
        { s with insts := upd s.insts i (fun x => { x with due := some (later s.now 1) }) })) ∧
  (∀ (i : InstIx) (s : State),
    runCues i 0 s = { s with insts := upd s.insts i (fun x => { x with due := some (later s.now 1) }) }) ∧
  ∀ (i : InstIx) (left : Nat) (s : State),
    let n := s.insts[i]
    let k := (s.cues[n.cue]).kind
    let c := s.sceneOf i
    let run := runCues i (left + 1) s
    let hold (w : WaitOn) (timeout : Nat) (action : TimeoutAction) : State :=
      { s with
        insts := upd s.insts i (fun x =>
          { x with
            wait := some
              { on := w, deadline := if timeout = 0 then none else some (later s.now timeout), action := action } }) }
    let onto (m : CueIx) (t : State) : State :=
      { t with insts := upd t.insts i (fun x => { x with cue := m }) }
    let goesOn (index : Nat) (t : State) : Prop :=
      (∀ m : CueIx, m.val = index →
        ((s.cues[m]).delay = 0 → run = runCues i left (onto m t)) ∧
        ((s.cues[m]).delay ≠ 0 → run =
          { t with
            insts := upd t.insts i (fun x => { x with cue := m, due := some (later s.now (s.cues[m]).delay) }) })) ∧
      (2047 < index → run =
        endInstance i .cue (raiseCheck (.cue (t.insts[i]).scene i index .outside) (some i) t))
    (∀ t, cueFault c k = some t → run = endInstance i .cue (raiseCheck (.cue n.scene i n.cue.val t) (some i) s)) ∧
    (cueFault c k = none → k = .endScene → run = endInstance i .endCue s) ∧
    (∀ e timeout action, k = .waitTrigger e timeout action → run = hold (.trigger e) timeout action) ∧
    (∀ a timeout action, cueFault c k = none → k = .waitMotion a timeout action → (s.axes[a]).state = .moving →
      run = hold (.motion a) timeout action) ∧
    (∀ z timeout action, cueFault c k = none → k = .waitClip z timeout action →
      (s.zones[z]).clipState = .expecting ∨ (s.zones[z]).clipState = .playing →
      run = hold (.clip z) timeout action) ∧
    (∀ target count t index, k = .jump target count → executeCue i k s = (t, .next index) → goesOn index t) ∧
    (cueFault c k = none →
      let pass (t : State) : Prop := goesOn (n.cue.val + 1) t
      (∀ g base level fade, k = .light g base level fade →
        pass (groupFade g (if base then .base else .fixed level) fade s)) ∧
      (∀ z clip, k = .voice z clip →
        ∃ t, pass t ∧ s.sameBut t [.zones, .pool, .trunk, .checks] ∧ othersSame s.zones t.zones z ∧
          (t.zones[z]).clip = clip ∧ (t.zones[z]).clipState = .expecting ∧
          (t.zones[z]).sceneQ =
            if (s.zones[z]).clipState = .none ∨ (s.zones[z]).clip ≠ clip then [] else (s.zones[z]).sceneQ) ∧
      (∀ a target speed, k = .move a target speed →
        let r := moveRequest a target speed n.origin s
        (r.2 = none → pass r.1) ∧
        ∀ x, r.2 = some x → pass (offerReport (.scene n.scene (some i) n.origin (.moveDenied n.cue a x)) r.1)) ∧
      (∀ a timeout action, k = .waitMotion a timeout action → (s.axes[a]).state ≠ .moving → pass s) ∧
      ∀ z timeout action, k = .waitClip z timeout action →
        (s.zones[z]).clipState = .done ∨ (s.zones[z]).clipState = .none → pass s)

/-- A JUMP cue: taken always for count 0 with the loop fields as they are; a counted JUMP takes the loop over with n − 1,
counts it down, and falls through at 0 with no owner; a target outside cue memory is an invalid cue (R138). A due event
that reaches it goes on after the delay of the cue it leads to, or ends the instance with its check (R131 to R133). -/
def Obligations.JumpCounts : Prop :=
  ∀ (i : InstIx) (target count : Nat) (s : State),
    let n := s.insts[i]
    let falls := count ≠ 0 ∧ n.loopOwner = some n.cue ∧ n.loopCount = 0
    let owner : Option CueIx := if count = 0 then n.loopOwner else if falls then none else some n.cue
    let left : Nat :=
      if count = 0 ∨ falls then n.loopCount
      else if n.loopOwner = some n.cue then n.loopCount - 1
      else count - 1
    let landing : Nat := if falls then n.cue.val + 1 else target
    let looped (x : Inst) : Inst := { x with loopOwner := owner, loopCount := left }
    executeCue i (.jump target count) s = ({ s with insts := upd s.insts i looped }, .next landing) ∧
    ∀ d : Time, n.due = some d → reached s.now d = true → (s.cues[n.cue]).kind = .jump target count →
      (∀ m : CueIx, m.val = landing → (s.cues[m]).delay ≠ 0 →
        exec (.dueEvent i) s = .next
          { s with
            insts := upd s.insts i (fun x =>
              { looped x with cue := m, due := some (later s.now (s.cues[m]).delay) }) }) ∧
      (2047 < landing → ∃ index : Nat, (index = landing ∨ index = n.cue.val) ∧
        exec (.dueEvent i) s = .next (endInstance i .cue
          (raiseCheck (.cue n.scene i index .outside) (some i)
            { s with insts := upd s.insts i (fun x => { looped x with due := none }) })))

/-- The timeout of a held wait ends the instance or clears the wait and passes to the next cue after its delay (R142,
R133); at cue 2,047 its pass is an invalid cue, whose check and end come at once (R132; the model's choice, log entries 10
and 32) and whose check names the index 2,048 (the model's reading, log entry 12). The end deadline of an axis sets a
further deadline while the move lasts; else the axis is IDLE at its target, and each RUNNING instance that waits on it passes to its next cue (R141, R178). That the rested axis keeps its from, to,
speed, start and duration is the model's choice (log entry 20). -/
def Obligations.WaitAndAxisEnds : Prop :=
  ∀ (d : Time) (s : State), reached s.now d = true →
    let passed (i : InstIx) (m : CueIx) (v : Vector Inst 12) : Vector Inst 12 :=
      upd v i (fun x => { x with wait := none, cue := m, due := some (later s.now (s.cues[m]).delay) })
    (∀ (i : InstIx) (w : Wait), (s.insts[i]).wait = some w → w.deadline = some d →
      (w.action = .endIt → exec (.waitTimeout i) s = .next (endInstance i .aborted s)) ∧
      (w.action = .next → ∀ m : CueIx, m.val = (s.insts[i]).cue.val + 1 →
        exec (.waitTimeout i) s = .next
          (let n := s.insts[i]
           let t :=
             if (s.sceneOf i).flags.report = true then
               offerReport (.scene n.scene (some i) n.origin (.waitTimeout n.cue w.on.kind)) s
             else s
           { t with insts := passed i m s.insts })) ∧
      (w.action = .next → (s.insts[i]).cue.val = 2047 →
        exec (.waitTimeout i) s = .next
          (let n := s.insts[i]
           let t :=
             if (s.sceneOf i).flags.report = true then
               offerReport (.scene n.scene (some i) n.origin (.waitTimeout n.cue w.on.kind)) s
             else s
           endInstance i .cue (raiseCheck (.cue n.scene i 2048 .outside) (some i)
             { t with insts := upd s.insts i (fun x => { x with wait := none }) })))) ∧
    ∀ a : AxisIx, (s.axes[a]).deadline = some d →
      let x := s.axes[a]
      let e := (s.now - x.moveStart).toNat
      let rested : State :=
        { s with axes := upd s.axes a (fun y => { y with state := .idle, pos := y.moveTo, deadline := none }) }
      (e < x.duration → exec (.axisEndDeadline a) s = .next
        { s with
          axes := upd s.axes a (fun y =>
            { y with deadline := some (later s.now (min (x.duration - e) 600000)) }) }) ∧
      (x.duration ≤ e →
        ((∀ i : InstIx, (s.insts[i]).waitsOn (.motion a) = false) → exec (.axisEndDeadline a) s = .next rested) ∧
        (s.mayPass (.motion a) →
          exec (.axisEndDeadline a) s = .next { rested with insts := s.passedOn (.motion a) }) ∧
        ∀ (i : InstIx) (m : CueIx), (s.insts[i]).waitsOn (.motion a) = true →
          (∀ j : InstIx, (s.insts[j]).waitsOn (.motion a) = true → j = i) → m.val = (s.insts[i]).cue.val + 1 →
          exec (.axisEndDeadline a) s = .next { rested with insts := passed i m s.insts })

/-- A move request: refused by the axis state and the bay state (R174), clamped to the effective travel region and counted
when clamped (R173), free and without colour at distance 0, else metered against the refilled buckets (R175, R176) and
started at the speed of R177 for the time of R178. A MOVING axis whose target is where it stands comes to rest there, and
each RUNNING instance that waits on it passes to its next cue (R174, R141; that its from, to, speed, start and duration stay
is the model's choice, log entry 20). A path is slow exactly when one of its positions is slow (R173). -/
def Obligations.Moves : Prop :=
  ∀ (a : AxisIx) (target speed : Nat) (o : Origin) (s : State),
    let x := s.axes[a]
    let bay := s.bayState x.bay
    let go := bay = .attract ∨ bay = .live ∨ (bay = .service ∧ o = .command)
    let ready := x.state = .idle ∨ x.state = .moving
    let run := moveRequest a target speed o s
    let ku := max x.kl x.ku
    let q := max x.kl (min ku target)
    let clamps := if q = target then x.clamps else min (x.clamps + 1) 65535
    let p := x.position s.now
    let dist := (p - q) + (q - p)
    let y := x.refill s.now
    let asked := min (if speed = 0 then x.defaultSpeed else speed) x.maxSpeed
    let slow := x.pathSlow p q = true ∨ bay = .service
    let v := if slow then min asked x.slowSpeed else asked
    let started (z : Axis) (v : Nat) : Axis :=
      { z with
        clamps := clamps, state := .moving, moveFrom := p, moveTo := q, speed := v, moveStart := s.now
        duration := (dist * 1000 + (v - 1)) / v
        deadline := some (later s.now (min ((dist * 1000 + (v - 1)) / v) 600000)) }
    let set (z : Axis) : State := { s with axes := upd s.axes a (fun _ => z) }
    (x.state = .unsynced → run = (s, some .unsynced)) ∧ (x.state = .stopped → run = (s, some .stopped)) ∧
    (ready → ¬ go → run = (s, some .bayState)) ∧
    (x.state = .idle → go → p = q → run = (set { x with clamps := clamps, colour := none }, none)) ∧
    (x.state = .moving → go → p = q → s.mayPass (.motion a) →
      run = ({ set { x with clamps := clamps, state := .idle, pos := p, deadline := none, colour := none } with
        insts := s.passedOn (.motion a) }, none)) ∧
    (ready → go → p ≠ q →
      (dist ≤ y.c → run = (set (started { y with c := y.c - dist, colour := some .green } v), none)) ∧
      (y.c < dist → dist ≤ y.e →
        run = (set (started { y with e := y.e - dist, colour := some .yellow } (max 1 (v / 2))), none)) ∧
      (y.c < dist → y.e < dist → run = (set { y with clamps := clamps, colour := some .red }, some .budget))) ∧
    (∀ m n : Nat, x.pathSlow m n = true ↔ ∃ w, min m n ≤ w ∧ w ≤ max m n ∧ x.slowAt w = true) ∧
    (∀ w : Nat,
      let sl := max x.kl (min ku x.sl)
      let su := max x.kl (min ku x.su)
      x.slowAt w = true ↔ x.kl ≤ w ∧ w ≤ ku ∧ (su < sl ∨ w < sl ∨ su < w))

/-- A valid POSITION word acts on the axis its slot names when the slot is the axis's feedback slot (R171): it synchronises
an UNSYNCED axis, a STOPPED one ignores it, and for an IDLE or MOVING one it is compared with the value the setpoint slot
carried in the frame, when it carried one (R182; that the setpoint slot's record must be AXIS of this axis is log
entry 19). A fault stops the axis at its last sent value, completes the waits on it, raises its check, ends its owner and
notifies its bay, in this order (R183; that it keeps its move's from, to, speed, start and duration is the model's choice,
log entry 20). A node that becomes ABSENT faults the axes whose feedback it carried; it is checked
and announced, in this order by the model's choice, and the axes fault in ascending order, the model's choice too (R31,
R183; log entries 19, 29 and 38). A frame whose valid words are all POSITION words hands them on in ascending slot order:
R30 gives that order to TRIGGER words, and for POSITION words it is the model's reading (log entry 15). -/
def Obligations.PositionWordsAndFaults : Prop :=
  (∀ (l : LineIx) (k : SlotIx) (w : BitVec 16) (s : State),
    let a := (s.slot l k).axis
    let x := s.axes[a]
    let set (y : Axis) : State := { s with axes := upd s.axes a (fun _ => y) }
    let sp := s.slot x.setpoint.1 x.setpoint.2
    let compared (v : Nat) : Prop := 0 < x.tolerance ∧ x.setpoint.1 = l ∧ sp.kind = .axis ∧ sp.axis = a ∧
      ((s.lines[l]).sent)[x.setpoint.2] = some v
    let run := positionWord l k w s
    (x.feedback ≠ some (l, k) ∨ x.state = .stopped → run = s) ∧
    (x.feedback = some (l, k) →
      (x.state = .unsynced →
        run = set { x with state := .idle, pos := w.toNat, following := 0, lastSent := none }) ∧
      (x.state = .idle ∨ x.state = .moving →
        ((∀ v, ¬ compared v) → run = s) ∧
        ∀ v, compared v →
          let error := (w.toNat - v) + (v - w.toNat)
          let count := min (x.following + 1) 15
          (error ≤ x.tolerance → run = set { x with following := 0 }) ∧
          (x.tolerance < error → count < x.faultCount → run = set { x with following := count }) ∧
          (x.tolerance < error → x.faultCount ≤ count →
            run = axisFault a .following (set { x with following := count }))))) ∧
  (∀ (a : AxisIx) (cause : AxisCause) (s : State),
    let x := s.axes[a]
    let place : Nat := match x.lastSent with | some v => v | none => x.position s.now
    let stopped : State :=
      { s with
        insts := if x.state = .moving then s.passedOn (.motion a) else s.insts
        axes := upd s.axes a (fun y =>
          { y with state := .stopped, pos := if x.state = .moving then place else y.pos, deadline := none }) }
    let checked := raiseCheck (.axis a cause) x.owner stopped
    (x.state = .moving → s.mayPass (.motion a)) →
    axisFault a cause s =
      faultNotice x.bay x.holdBay (match x.owner with | some i => endInstance i .fault checked | none => checked)) ∧
  (∀ (l : LineIx) (n : NodeIx) (s : State),
    let carried (a : AxisIx) : Prop := ((s.axes[a]).state = .idle ∨ (s.axes[a]).state = .moving) ∧
      ∃ k : SlotIx, (s.axes[a]).feedback = some (l, k) ∧ (s.slot l k).kind ≠ .off ∧ (s.slot l k).node = n
    let lost : List AxisIx := (List.finRange 24).filter (fun a =>
      match (s.axes[a]).feedback with
      | some m => decide (((s.axes[a]).state = .idle ∨ (s.axes[a]).state = .moving) ∧ m.1 = l ∧
          (s.slot l m.2).kind ≠ .off ∧ (s.slot l m.2).node = n)
      | none => false)
    let faults (t : State) : State :=
      lost.foldl (fun v a =>
        if (v.axes[a]).state = .idle ∨ (v.axes[a]).state = .moving then axisFault a .feedbackLost v else v) t
    (∀ a : AxisIx, a ∈ lost ↔ carried a) ∧
    (∀ p : Presence, p ≠ .absent ∨ (∀ a, ¬ carried a) → announce l n p s = evaluateNode l n s) ∧
    ((∃ a, carried a) → inSomeOrder (evaluateNode l n) faults s (announce l n .absent s))) ∧
  (∀ (l : LineIx) (n : NodeIx) (s : State),
    let old := ((s.lines[l]).nodes)[n]
    let new := old.settle (nodeWindows s l n)
    let t : State := { s with lines := upd s.lines l (fun e => { e with nodes := e.nodes.set n new }) }
    (new.presence = old.presence → settleNode l n s = t) ∧
    (new.presence ≠ old.presence → settleNode l n s =
      announce l n new.presence (if new.presence = .absent then raiseCheck (.node l n) none t else t))) ∧
  ∀ (l : LineIx) (s : State),
    (∀ (k : SlotIx) (w : BitVec 16), ((s.lines[l]).windows)[k] = .valid w → (s.slot l k).replyKind = .position) →
    replyWords l s =
      (List.finRange 48).foldl (fun t k =>
        match ((s.lines[l]).windows)[k] with | .valid w => positionWord l k w t | _ => t) s

/-- A suspended instance keeps its cue, its loop and its wait's object and action; a resume sets the due time and the wait
deadline again from the times they had left, so that a time not yet reached is moved by exactly the length of the pause
(R144, R145). What a suspension does besides: the FADING members of the groups it owns freeze, the MOVING axes it owns
halt, and the SUSPENDED report is offered; and a resume: the FROZEN members of the groups it owns go on, a wait on motion
or a clip that is met by now completes, and the RESUMED report is offered (R144, R145, R146; a move's fields stay: log
entry 20). -/
def Obligations.SuspendAndResume : Prop :=
  (∀ (i : InstIx) (s : State),
    let n := s.insts[i]
    let c := s.sceneOf i
    let member (l : LineIx) (k : SlotIx) : Prop :=
      ∃ g ∈ c.groups, (s.groups[g]).owner = some i ∧ (l, k) ∈ (s.groups[g]).members
    let halts (a : AxisIx) : Prop := a ∈ c.axes ∧ (s.axes[a]).owner = some i ∧ (s.axes[a]).state = .moving
    let reported (e : SceneEvent) (t : State) : State :=
      if c.flags.report = true then offerReport (.scene n.scene (some i) n.origin e) t else t
    let met : Prop := ∃ w, n.wait = some w ∧
      match w.on with
      | .trigger _ => False
      | .motion a => (s.axes[a]).state ≠ .moving
      | .clip z => (s.zones[z]).clipState = .done ∨ (s.zones[z]).clipState = .none
    (∃ u, suspend i s = reported .suspended u ∧ s.sameBut u [.insts, .fades, .axes, .trunk, .checks] ∧
      u.insts[i] = n.suspend s.now ∧
      (∀ (l : LineIx) (k : SlotIx),
        (member l k → u.fade l k = (freezeMember l k s).fade l k) ∧ (¬ member l k → u.fade l k = s.fade l k)) ∧
      (∀ a : AxisIx,
        (halts a → u.axes[a] =
          { s.axes[a] with state := .idle, pos := (s.axes[a]).position s.now, deadline := none }) ∧
        (¬ halts a → u.axes[a] = s.axes[a])) ∧
      ((∀ (j : InstIx) (a : AxisIx), halts a → j ≠ i → (s.insts[j]).waitsOn (.motion a) = false) →
        othersSame s.insts u.insts i ∧ u.trunk = s.trunk ∧ u.checks = s.checks)) ∧
    ∃ u : State, s.sameBut u [.insts, .fades] ∧ othersSame s.insts u.insts i ∧
      (∀ (l : LineIx) (k : SlotIx),
        (member l k → u.fade l k = (resumeMember l k s).fade l k) ∧ (¬ member l k → u.fade l k = s.fade l k)) ∧
      (¬ met → u.insts[i] = n.resume s.now ∧ resume i s = (reported .resumed u, [])) ∧
      (met → n.cue.val < 2047 →
        u.insts[i] = (n.resume s.now).passed s ∧ resume i s = (reported .resumed u, []))) ∧
  ∀ (n : Inst) (at' pause : Time),
    let m := n.suspend at'
    let back := m.resume (at' + pause)
    m.state = .suspended ∧ m.due = none ∧ (∀ w, m.wait = some w → w.deadline = none) ∧ m.cue = n.cue ∧
      m.loopOwner = n.loopOwner ∧ m.loopCount = n.loopCount ∧ m.scene = n.scene ∧ m.origin = n.origin ∧
      back.state = .running ∧ back.remDue = none ∧ back.remWait = none ∧
      (n.due = none → back.due = none) ∧
      (∀ d, n.due = some d →
        (reached at' d = true → back.due = some (at' + pause)) ∧
        (reached at' d = false → back.due = some (d + pause))) ∧
      (n.wait = none → back.wait = none) ∧
      ∀ w, n.wait = some w → ∃ x, back.wait = some x ∧ x.on = w.on ∧ x.action = w.action ∧
        (w.deadline = none → x.deadline = none) ∧
        ∀ d, w.deadline = some d →
          (reached at' d = true → x.deadline = some (at' + pause)) ∧
          (reached at' d = false → x.deadline = some (d + pause))

/-! ## Narration -/

/-- The block window and what follows it. The zones of a line are judged once each, from the lowest above last served on
and wrapping, each its voice candidate and then its bed candidate, against what is left of the allowance in force (R159,
R160). A chosen chunk leaves its queue; a SCENE chunk makes the clip PLAYING, and a voice chunk that finds voice-active
clear sets it and ducks the bed (R161). A completed chunk returns its blocks, with PACE GO where the usage falls below the
resume level, and sets its stream's next-send time by the pace; a last SCENE chunk of a PLAYING clip makes it DONE, and a
last voice chunk after which no voice is left clears voice-active and restores the bed (R156, R162, R163). An instance that
a chunk's completion runs off cue 2,047 ends once that chunk is complete and before the next one: the model's choice (log
entries 10, 33 and 40). A flush returns the blocks of a whole queue (R165). -/
def Obligations.BlockWindow : Prop :=
  (∀ (l : LineIx) (s : State),
    let zones := (List.finRange 24).filter (fun z => decide ((s.zones[z]).line = l))
    let round : List ZoneIx :=
      match s.pool.lastServed[l] with
      | none => zones
      | some p => zones.filter (fun z => decide (p.val < z.val)) ++ zones.filter (fun z => decide (z.val ≤ p.val))
    let w := round.foldl judgeZone { s := s, left := (s.lines[l]).params.allowance, chosen := [], last := none }
    fillWindow l s =
      { w.s with
        pool := match w.last with
          | some z => { w.s.pool with lastServed := w.s.pool.lastServed.set l (some z) }
          | none => w.s.pool
        lines := upd w.s.lines l (fun e => { e with block := w.chosen }) }) ∧
  (∀ (w : Walk) (z : ZoneIx),
    let ready (d : Option Time) : Prop := ∀ x, d = some x → reached w.s.now x = true
    let fits (v : Walk) (c : Chunk) : Prop := (c.audio.length + 95) / 96 ≤ v.left
    let take (v : Walk) (c : Chunk) : Walk :=
      { s := takeChunk z c v.s, left := v.left - (c.audio.length + 95) / 96
        chosen := v.chosen ++ [{ zone := z, node := (w.s.zones[z]).node, chunk := c }], last := some z }
    let q := w.s.zones[z]
    let served := ∃ i : InstIx, q.owner = some i ∧ (w.s.insts[i]).state = .running
    let voice (c : Chunk) : Prop :=
      (∃ rest, q.announceQ = c :: rest) ∨
        (q.announceQ = [] ∧ served ∧ w.s.bayState q.bay ≠ .dark ∧ ∃ rest, q.sceneQ = c :: rest)
    let bed (v : Walk) (c : Chunk) : Prop :=
      (w.s.bayState q.bay = .attract ∨ w.s.bayState q.bay = .live ∨ w.s.bayState q.bay = .service) ∧
        ∃ rest, (v.s.zones[z]).ambientQ = c :: rest
    ∃ v : Walk,
      (∀ c, voice c → ready q.voiceNext → fits w c → v = take w c) ∧
      ((∀ c, voice c → ¬ (ready q.voiceNext ∧ fits w c)) → v = w) ∧
      (∀ c, bed v c → ready q.bedNext → fits v c → judgeZone w z = take v c) ∧
      ((∀ c, bed v c → ¬ (ready q.bedNext ∧ fits v c)) → judgeZone w z = v)) ∧
  (∀ (z : ZoneIx) (c : Chunk) (s : State),
    let q := s.zones[z]
    let u : State :=
      { s with
        zones := upd s.zones z (fun r =>
          { r with
            announceQ := if c.cls = .announce then r.announceQ.tail else r.announceQ
            sceneQ := if c.cls = .scene then r.sceneQ.tail else r.sceneQ
            ambientQ := if c.cls = .ambient then r.ambientQ.tail else r.ambientQ
            clipState := if c.cls = .scene then .playing else r.clipState
            voiceActive := if c.cls = .ambient then r.voiceActive else true }) }
    (c.cls = .ambient ∨ q.voiceActive = true ∨ q.bedSlot = none → takeChunk z c s = u) ∧
    ∀ l k, q.bedSlot = some (l, k) → c.cls ≠ .ambient → q.voiceActive = false →
      takeChunk z c s = if (s.slot l k).kind = .gain then fadeStart l k (.fixed q.duckLevel) q.duckTime u else u) ∧
  (∀ (z : ZoneIx) (s : State),
    let q := s.zones[z]
    let returned (r : Zone) (n : Nat) : State :=
      let t : State :=
        { s with
          pool := { s.pool with free := s.pool.free + n }, zones := upd s.zones z (fun _ => { r with usage := q.usage - n }) }
      if q.paused = true ∧ q.usage - n < q.resumeLevel then
        offerReport (.pace z false (q.usage - n) (s.pool.free + n))
          { t with zones := upd t.zones z (fun r => { r with paused := false }) }
      else t
    (∀ cls : ChunkClass,
      let held : List Chunk :=
        match cls with | .announce => q.announceQ | .scene => q.sceneQ | .ambient => q.ambientQ
      (held = [] → flush z cls s = s) ∧
      (held ≠ [] → flush z cls s =
        returned
          { q with
            announceQ := if cls = .announce then [] else q.announceQ
            sceneQ := if cls = .scene then [] else q.sceneQ
            ambientQ := if cls = .ambient then [] else q.ambientQ }
          (held.map (fun c => (c.audio.length + 95) / 96)).sum)) ∧
    ∀ (c : Chunk) (node : NodeIx) (start : Time),
      let next := later start ((c.audio.length * q.pace + 999) / 1000)
      let paced := returned q ((c.audio.length + 95) / 96)
      let done := c.cls = .scene ∧ c.last = true ∧ c.clip = q.clip ∧ q.clipState = .playing
      let ended := c.last = true ∧ q.voiceActive = true ∧ q.announceQ = [] ∧
        (q.sceneQ = [] ∨ ∀ i : InstIx, q.owner = some i → (s.insts[i]).state ≠ .running)
      let run := completeChunk start { zone := z, node := node, chunk := c } s
      (c.cls = .ambient → run =
        ({ paced with zones := upd paced.zones z (fun r => { r with bedNext := some next }) }, [])) ∧
      (c.cls ≠ .ambient → s.mayPass (.clip z) →
        let voiced : State :=
          { paced with
            insts := if done then s.passedOn (.clip z) else s.insts
            zones := upd paced.zones z (fun r =>
              { r with
                voiceNext := some next, clipState := if done then .done else r.clipState
                voiceActive := if ended then false else r.voiceActive }) }
        (¬ ended ∨ q.bedSlot = none → run = (voiced, [])) ∧
        ∀ l k, q.bedSlot = some (l, k) → ended →
          run = (if (s.slot l k).kind = .gain then fadeStart l k .base q.restoreTime voiced else voiced, []))) ∧
  (∀ (l : LineIx) (start : Time) (s : State),
    completeWindow l start s =
      (s.lines[l]).block.foldl (fun t c => endRunOff (completeChunk start c t))
        { s with lines := upd s.lines l (fun e => { e with block := [] }) }) ∧
  ∀ (l : LineIx) (z : ZoneIx) (c : Chunk) (rest : List Chunk) (start : Time) (s : State),
    let q := s.zones[z]
    let carried : Carried := { zone := z, node := q.node, chunk := c }
    let ready (d : Option Time) : Prop := ∀ x, d = some x → reached s.now x = true
    let n := (c.audio.length + 95) / 96
    let idle : State := { s with lines := upd s.lines l (fun e => { e with block := [] }) }
    let sent (r : Zone) : State :=
      { s with
        zones := upd s.zones z (fun _ => r)
        pool := { s.pool with lastServed := s.pool.lastServed.set l (some z) }
        lines := upd s.lines l (fun e => { e with block := [carried] }) }
    (q.line = l → (∀ x : ZoneIx, (s.zones[x]).line = l → x = z) → q.sceneQ = [] →
      (q.announceQ = c :: rest → q.ambientQ = [] → c.cls = .announce →
        (ready q.voiceNext → n ≤ (s.lines[l]).params.allowance → q.voiceActive = true →
          fillWindow l s = sent { q with announceQ := rest }) ∧
        (¬ ready q.voiceNext ∨ (s.lines[l]).params.allowance < n → fillWindow l s = idle)) ∧
      (q.announceQ = [] → q.ambientQ = c :: rest → c.cls = .ambient →
        let served := s.bayState q.bay = .attract ∨ s.bayState q.bay = .live ∨ s.bayState q.bay = .service
        (ready q.bedNext → n ≤ (s.lines[l]).params.allowance → served →
          fillWindow l s = sent { q with ambientQ := rest }) ∧
        (¬ ready q.bedNext ∨ (s.lines[l]).params.allowance < n ∨ ¬ served → fillWindow l s = idle))) ∧
    (c.cls = .ambient → q.paused = false → completeChunk start carried s =
      ({ s with
         pool := { s.pool with free := s.pool.free + n }
         zones := upd s.zones z (fun r =>
           { r with
             usage := r.usage - n
             bedNext := some (later start ((c.audio.length * q.pace + 999) / 1000)) }) }, []))

/-! ## Invariants every step keeps -/

/-- Every step keeps the Trunk Port's queues within their sizes, its DOWN ports silent, port A busy while it has a frame
to send, and the command queue within its size with an answer waiting only for a command (R1, R4 to R7, R9, R10). -/
def Obligations.TrunkKept : Prop := ∀ s : State, TrunkOk s → ∀ t, step s = .next t → TrunkOk t

/-- Every step keeps every bay's occupancy, intrusion set, hold causes and deadlines in the relations its state calls for
(3.1, 3.3, R40 to R46, R55). -/
def Obligations.BaysKept : Prop := ∀ s : State, BaysOk s → ∀ t, step s = .next t → BaysOk t

/-- Every step keeps the credits within the allowances, the keys of the trigger table apart, at most 16 INTRUSION entries
per bay, and the notified level of every INTRUSION entry equal to its place in its bay's intrusion set (R91, R92, R100). -/
def Obligations.TriggersKept : Prop :=
  ∀ s : State, TriggersOk s → IntrusionsOk s → ∀ t, step s = .next t → TriggersOk t ∧ IntrusionsOk t

/-- Every step keeps every fade record's deadline and duration as its state calls for, and every axis's deadline, buckets,
residue, refill deadline and loaded ranges; and every group's member list of at most 16 slots without a slot twice, and
every slot in at most one group (R76, R83, R169, R170, R175, R177). -/
def Obligations.FadesAndAxesKept : Prop :=
  (∀ s : State, FadesOk s → AxesOk s → ∀ t, step s = .next t → FadesOk t ∧ AxesOk t) ∧
  ∀ s : State, GroupsOk s → ∀ t, step s = .next t → GroupsOk t

/-- Every step keeps each line RUNNING exactly while it has a frame in progress or a next start, its window within its
allowance and its nodes settled; keeps each zone's usage equal to the blocks it holds, and 1,536 blocks in all; and keeps
every queued SCENE chunk one of its zone's expected clip (R19, R31, R34, R149, R157). -/
def Obligations.LinesAndPoolKept : Prop :=
  ∀ s : State, LinesOk s → PoolOk s → ClipsOk s → ∀ t, step s = .next t → LinesOk t ∧ PoolOk t ∧ ClipsOk t

/-- Every step keeps the wait list within its size and ordered by priority and then by enqueue time, each scene number in one place, and each group, zone and
axis owned by exactly the busy instance whose scene claims it, with no axis MOVING unowned (R106, R113, R115, 10.2). -/
def Obligations.AdmissionKept : Prop :=
  ∀ s : State, WaitListOk s → AdmissionOk s → ∀ t, step s = .next t → WaitListOk t ∧ AdmissionOk t
end

