-- ==== Sys2Proof/Laws/State.lean ====
section
/-! SUPPORT. One lemma per field of the state per update (all true by unfolding), and the lemmas of reading a table after
one record of it was written. -/

namespace Sys2Proof.Machine

/-! ## Tables -/

@[simp] theorem upd_getElem {α : Type} {n : Nat} (v : Vector α n) (i : Fin n) (f : α → α) (k : Nat) (h : k < n) :
    (upd v i f)[k] = if i.val = k then f v[k] else v[k] := by
  unfold upd
  rw [Vector.getElem_set]
  split
  · next e => subst e; rfl
  · rfl

theorem upd_get_same {α : Type} {n : Nat} (v : Vector α n) (i : Fin n) (f : α → α) : (upd v i f)[i] = f v[i] := by
  simp

theorem upd_get_other {α : Type} {n : Nat} (v : Vector α n) (i j : Fin n) (f : α → α) (h : i ≠ j) :
    (upd v i f)[j] = v[j] := by
  have : i.val ≠ j.val := fun e => h (Fin.ext e)
  simp [this]

theorem upd_get {α : Type} {n : Nat} (v : Vector α n) (i j : Fin n) (f : α → α) :
    (upd v i f)[j] = if i = j then f v[j] else v[j] := by
  simp [Fin.ext_iff]

@[simp] theorem mapAll_getElem {α β : Type} {n : Nat} (f : α → β) (v : Vector α n) (k : Nat) (h : k < n) :
    (mapAll f v)[k] = f v[k] := by
  simp [mapAll]

@[simp] theorem tabulate_getElem {α : Type} (n : Nat) (f : Fin n → α) (k : Nat) (h : k < n) :
    (tabulate n f)[k] = f ⟨k, h⟩ := by
  simp [tabulate]

/-! ## Updates of the state -/

variable (s : State)

@[simp] theorem State.modTrunk_pending (f : Trunk → Trunk) : (s.modTrunk f).pending = s.pending := rfl
@[simp] theorem State.modTrunk_trunk (f : Trunk → Trunk) : (s.modTrunk f).trunk = f s.trunk := rfl
@[simp] theorem State.modTrunk_cmd (f : Trunk → Trunk) : (s.modTrunk f).cmd = s.cmd := rfl
@[simp] theorem State.modTrunk_params (f : Trunk → Trunk) : (s.modTrunk f).params = s.params := rfl
@[simp] theorem State.modTrunk_lines (f : Trunk → Trunk) : (s.modTrunk f).lines = s.lines := rfl
@[simp] theorem State.modTrunk_bays (f : Trunk → Trunk) : (s.modTrunk f).bays = s.bays := rfl
@[simp] theorem State.modTrunk_watch (f : Trunk → Trunk) : (s.modTrunk f).watch = s.watch := rfl
@[simp] theorem State.modTrunk_curves (f : Trunk → Trunk) : (s.modTrunk f).curves = s.curves := rfl
@[simp] theorem State.modTrunk_curvesInForce (f : Trunk → Trunk) :
    (s.modTrunk f).curvesInForce = s.curvesInForce := rfl
@[simp] theorem State.modTrunk_parks (f : Trunk → Trunk) : (s.modTrunk f).parks = s.parks := rfl
@[simp] theorem State.modTrunk_fades (f : Trunk → Trunk) : (s.modTrunk f).fades = s.fades := rfl
@[simp] theorem State.modTrunk_groups (f : Trunk → Trunk) : (s.modTrunk f).groups = s.groups := rfl
@[simp] theorem State.modTrunk_triggers (f : Trunk → Trunk) : (s.modTrunk f).triggers = s.triggers := rfl
@[simp] theorem State.modTrunk_throttle (f : Trunk → Trunk) : (s.modTrunk f).throttle = s.throttle := rfl
@[simp] theorem State.modTrunk_scenes (f : Trunk → Trunk) : (s.modTrunk f).scenes = s.scenes := rfl
@[simp] theorem State.modTrunk_insts (f : Trunk → Trunk) : (s.modTrunk f).insts = s.insts := rfl
@[simp] theorem State.modTrunk_waitList (f : Trunk → Trunk) : (s.modTrunk f).waitList = s.waitList := rfl
@[simp] theorem State.modTrunk_cues (f : Trunk → Trunk) : (s.modTrunk f).cues = s.cues := rfl
@[simp] theorem State.modTrunk_zones (f : Trunk → Trunk) : (s.modTrunk f).zones = s.zones := rfl
@[simp] theorem State.modTrunk_pool (f : Trunk → Trunk) : (s.modTrunk f).pool = s.pool := rfl
@[simp] theorem State.modTrunk_axes (f : Trunk → Trunk) : (s.modTrunk f).axes = s.axes := rfl
@[simp] theorem State.modTrunk_checks (f : Trunk → Trunk) : (s.modTrunk f).checks = s.checks := rfl
@[simp] theorem State.modTrunk_choices (f : Trunk → Trunk) : (s.modTrunk f).choices = s.choices := rfl

@[simp] theorem State.modCmd_pending (f : CommandUnit → CommandUnit) : (s.modCmd f).pending = s.pending := rfl
@[simp] theorem State.modCmd_trunk (f : CommandUnit → CommandUnit) : (s.modCmd f).trunk = s.trunk := rfl
@[simp] theorem State.modCmd_cmd (f : CommandUnit → CommandUnit) : (s.modCmd f).cmd = f s.cmd := rfl
@[simp] theorem State.modCmd_params (f : CommandUnit → CommandUnit) : (s.modCmd f).params = s.params := rfl
@[simp] theorem State.modCmd_lines (f : CommandUnit → CommandUnit) : (s.modCmd f).lines = s.lines := rfl
@[simp] theorem State.modCmd_bays (f : CommandUnit → CommandUnit) : (s.modCmd f).bays = s.bays := rfl
@[simp] theorem State.modCmd_watch (f : CommandUnit → CommandUnit) : (s.modCmd f).watch = s.watch := rfl
@[simp] theorem State.modCmd_curves (f : CommandUnit → CommandUnit) : (s.modCmd f).curves = s.curves := rfl
@[simp] theorem State.modCmd_curvesInForce (f : CommandUnit → CommandUnit) :
    (s.modCmd f).curvesInForce = s.curvesInForce := rfl
@[simp] theorem State.modCmd_parks (f : CommandUnit → CommandUnit) : (s.modCmd f).parks = s.parks := rfl
@[simp] theorem State.modCmd_fades (f : CommandUnit → CommandUnit) : (s.modCmd f).fades = s.fades := rfl
@[simp] theorem State.modCmd_groups (f : CommandUnit → CommandUnit) : (s.modCmd f).groups = s.groups := rfl
@[simp] theorem State.modCmd_triggers (f : CommandUnit → CommandUnit) : (s.modCmd f).triggers = s.triggers := rfl
@[simp] theorem State.modCmd_throttle (f : CommandUnit → CommandUnit) : (s.modCmd f).throttle = s.throttle := rfl
@[simp] theorem State.modCmd_scenes (f : CommandUnit → CommandUnit) : (s.modCmd f).scenes = s.scenes := rfl
@[simp] theorem State.modCmd_insts (f : CommandUnit → CommandUnit) : (s.modCmd f).insts = s.insts := rfl
@[simp] theorem State.modCmd_waitList (f : CommandUnit → CommandUnit) : (s.modCmd f).waitList = s.waitList := rfl
@[simp] theorem State.modCmd_cues (f : CommandUnit → CommandUnit) : (s.modCmd f).cues = s.cues := rfl
@[simp] theorem State.modCmd_zones (f : CommandUnit → CommandUnit) : (s.modCmd f).zones = s.zones := rfl
@[simp] theorem State.modCmd_pool (f : CommandUnit → CommandUnit) : (s.modCmd f).pool = s.pool := rfl
@[simp] theorem State.modCmd_axes (f : CommandUnit → CommandUnit) : (s.modCmd f).axes = s.axes := rfl
@[simp] theorem State.modCmd_checks (f : CommandUnit → CommandUnit) : (s.modCmd f).checks = s.checks := rfl
@[simp] theorem State.modCmd_choices (f : CommandUnit → CommandUnit) : (s.modCmd f).choices = s.choices := rfl

@[simp] theorem State.modLine_pending (l : LineIx) (f : LineEngine → LineEngine) :
    (s.modLine l f).pending = s.pending := rfl
@[simp] theorem State.modLine_trunk (l : LineIx) (f : LineEngine → LineEngine) : (s.modLine l f).trunk = s.trunk := rfl
@[simp] theorem State.modLine_cmd (l : LineIx) (f : LineEngine → LineEngine) : (s.modLine l f).cmd = s.cmd := rfl
@[simp] theorem State.modLine_params (l : LineIx) (f : LineEngine → LineEngine) :
    (s.modLine l f).params = s.params := rfl
@[simp] theorem State.modLine_lines (l : LineIx) (f : LineEngine → LineEngine) :
    (s.modLine l f).lines = upd s.lines l f := rfl
@[simp] theorem State.modLine_bays (l : LineIx) (f : LineEngine → LineEngine) : (s.modLine l f).bays = s.bays := rfl
@[simp] theorem State.modLine_watch (l : LineIx) (f : LineEngine → LineEngine) : (s.modLine l f).watch = s.watch := rfl
@[simp] theorem State.modLine_curves (l : LineIx) (f : LineEngine → LineEngine) :
    (s.modLine l f).curves = s.curves := rfl
@[simp] theorem State.modLine_curvesInForce (l : LineIx) (f : LineEngine → LineEngine) :
    (s.modLine l f).curvesInForce = s.curvesInForce := rfl
@[simp] theorem State.modLine_parks (l : LineIx) (f : LineEngine → LineEngine) : (s.modLine l f).parks = s.parks := rfl
@[simp] theorem State.modLine_fades (l : LineIx) (f : LineEngine → LineEngine) : (s.modLine l f).fades = s.fades := rfl
@[simp] theorem State.modLine_groups (l : LineIx) (f : LineEngine → LineEngine) :
    (s.modLine l f).groups = s.groups := rfl
@[simp] theorem State.modLine_triggers (l : LineIx) (f : LineEngine → LineEngine) :
    (s.modLine l f).triggers = s.triggers := rfl
@[simp] theorem State.modLine_throttle (l : LineIx) (f : LineEngine → LineEngine) :
    (s.modLine l f).throttle = s.throttle := rfl
@[simp] theorem State.modLine_scenes (l : LineIx) (f : LineEngine → LineEngine) :
    (s.modLine l f).scenes = s.scenes := rfl
@[simp] theorem State.modLine_insts (l : LineIx) (f : LineEngine → LineEngine) : (s.modLine l f).insts = s.insts := rfl
@[simp] theorem State.modLine_waitList (l : LineIx) (f : LineEngine → LineEngine) :
    (s.modLine l f).waitList = s.waitList := rfl
@[simp] theorem State.modLine_cues (l : LineIx) (f : LineEngine → LineEngine) : (s.modLine l f).cues = s.cues := rfl
@[simp] theorem State.modLine_zones (l : LineIx) (f : LineEngine → LineEngine) : (s.modLine l f).zones = s.zones := rfl
@[simp] theorem State.modLine_pool (l : LineIx) (f : LineEngine → LineEngine) : (s.modLine l f).pool = s.pool := rfl
@[simp] theorem State.modLine_axes (l : LineIx) (f : LineEngine → LineEngine) : (s.modLine l f).axes = s.axes := rfl
@[simp] theorem State.modLine_checks (l : LineIx) (f : LineEngine → LineEngine) :
    (s.modLine l f).checks = s.checks := rfl
@[simp] theorem State.modLine_choices (l : LineIx) (f : LineEngine → LineEngine) :
    (s.modLine l f).choices = s.choices := rfl

@[simp] theorem State.modBay_pending (b : BayIx) (f : Bay → Bay) : (s.modBay b f).pending = s.pending := rfl
@[simp] theorem State.modBay_trunk (b : BayIx) (f : Bay → Bay) : (s.modBay b f).trunk = s.trunk := rfl
@[simp] theorem State.modBay_cmd (b : BayIx) (f : Bay → Bay) : (s.modBay b f).cmd = s.cmd := rfl
@[simp] theorem State.modBay_params (b : BayIx) (f : Bay → Bay) : (s.modBay b f).params = s.params := rfl
@[simp] theorem State.modBay_lines (b : BayIx) (f : Bay → Bay) : (s.modBay b f).lines = s.lines := rfl
@[simp] theorem State.modBay_bays (b : BayIx) (f : Bay → Bay) : (s.modBay b f).bays = upd s.bays b f := rfl
@[simp] theorem State.modBay_watch (b : BayIx) (f : Bay → Bay) : (s.modBay b f).watch = s.watch := rfl
@[simp] theorem State.modBay_curves (b : BayIx) (f : Bay → Bay) : (s.modBay b f).curves = s.curves := rfl
@[simp] theorem State.modBay_curvesInForce (b : BayIx) (f : Bay → Bay) :
    (s.modBay b f).curvesInForce = s.curvesInForce := rfl
@[simp] theorem State.modBay_parks (b : BayIx) (f : Bay → Bay) : (s.modBay b f).parks = s.parks := rfl
@[simp] theorem State.modBay_fades (b : BayIx) (f : Bay → Bay) : (s.modBay b f).fades = s.fades := rfl
@[simp] theorem State.modBay_groups (b : BayIx) (f : Bay → Bay) : (s.modBay b f).groups = s.groups := rfl
@[simp] theorem State.modBay_triggers (b : BayIx) (f : Bay → Bay) : (s.modBay b f).triggers = s.triggers := rfl
@[simp] theorem State.modBay_throttle (b : BayIx) (f : Bay → Bay) : (s.modBay b f).throttle = s.throttle := rfl
@[simp] theorem State.modBay_scenes (b : BayIx) (f : Bay → Bay) : (s.modBay b f).scenes = s.scenes := rfl
@[simp] theorem State.modBay_insts (b : BayIx) (f : Bay → Bay) : (s.modBay b f).insts = s.insts := rfl
@[simp] theorem State.modBay_waitList (b : BayIx) (f : Bay → Bay) : (s.modBay b f).waitList = s.waitList := rfl
@[simp] theorem State.modBay_cues (b : BayIx) (f : Bay → Bay) : (s.modBay b f).cues = s.cues := rfl
@[simp] theorem State.modBay_zones (b : BayIx) (f : Bay → Bay) : (s.modBay b f).zones = s.zones := rfl
@[simp] theorem State.modBay_pool (b : BayIx) (f : Bay → Bay) : (s.modBay b f).pool = s.pool := rfl
@[simp] theorem State.modBay_axes (b : BayIx) (f : Bay → Bay) : (s.modBay b f).axes = s.axes := rfl
@[simp] theorem State.modBay_checks (b : BayIx) (f : Bay → Bay) : (s.modBay b f).checks = s.checks := rfl
@[simp] theorem State.modBay_choices (b : BayIx) (f : Bay → Bay) : (s.modBay b f).choices = s.choices := rfl

@[simp] theorem State.modWatch_pending (w : WatchIx) (f : Watch → Watch) : (s.modWatch w f).pending = s.pending := rfl
@[simp] theorem State.modWatch_trunk (w : WatchIx) (f : Watch → Watch) : (s.modWatch w f).trunk = s.trunk := rfl
@[simp] theorem State.modWatch_cmd (w : WatchIx) (f : Watch → Watch) : (s.modWatch w f).cmd = s.cmd := rfl
@[simp] theorem State.modWatch_params (w : WatchIx) (f : Watch → Watch) : (s.modWatch w f).params = s.params := rfl
@[simp] theorem State.modWatch_lines (w : WatchIx) (f : Watch → Watch) : (s.modWatch w f).lines = s.lines := rfl
@[simp] theorem State.modWatch_bays (w : WatchIx) (f : Watch → Watch) : (s.modWatch w f).bays = s.bays := rfl
@[simp] theorem State.modWatch_watch (w : WatchIx) (f : Watch → Watch) :
    (s.modWatch w f).watch = upd s.watch w f := rfl
@[simp] theorem State.modWatch_curves (w : WatchIx) (f : Watch → Watch) : (s.modWatch w f).curves = s.curves := rfl
@[simp] theorem State.modWatch_curvesInForce (w : WatchIx) (f : Watch → Watch) :
    (s.modWatch w f).curvesInForce = s.curvesInForce := rfl
@[simp] theorem State.modWatch_parks (w : WatchIx) (f : Watch → Watch) : (s.modWatch w f).parks = s.parks := rfl
@[simp] theorem State.modWatch_fades (w : WatchIx) (f : Watch → Watch) : (s.modWatch w f).fades = s.fades := rfl
@[simp] theorem State.modWatch_groups (w : WatchIx) (f : Watch → Watch) : (s.modWatch w f).groups = s.groups := rfl
@[simp] theorem State.modWatch_triggers (w : WatchIx) (f : Watch → Watch) :
    (s.modWatch w f).triggers = s.triggers := rfl
@[simp] theorem State.modWatch_throttle (w : WatchIx) (f : Watch → Watch) :
    (s.modWatch w f).throttle = s.throttle := rfl
@[simp] theorem State.modWatch_scenes (w : WatchIx) (f : Watch → Watch) : (s.modWatch w f).scenes = s.scenes := rfl
@[simp] theorem State.modWatch_insts (w : WatchIx) (f : Watch → Watch) : (s.modWatch w f).insts = s.insts := rfl
@[simp] theorem State.modWatch_waitList (w : WatchIx) (f : Watch → Watch) :
    (s.modWatch w f).waitList = s.waitList := rfl
@[simp] theorem State.modWatch_cues (w : WatchIx) (f : Watch → Watch) : (s.modWatch w f).cues = s.cues := rfl
@[simp] theorem State.modWatch_zones (w : WatchIx) (f : Watch → Watch) : (s.modWatch w f).zones = s.zones := rfl
@[simp] theorem State.modWatch_pool (w : WatchIx) (f : Watch → Watch) : (s.modWatch w f).pool = s.pool := rfl
@[simp] theorem State.modWatch_axes (w : WatchIx) (f : Watch → Watch) : (s.modWatch w f).axes = s.axes := rfl
@[simp] theorem State.modWatch_checks (w : WatchIx) (f : Watch → Watch) : (s.modWatch w f).checks = s.checks := rfl
@[simp] theorem State.modWatch_choices (w : WatchIx) (f : Watch → Watch) : (s.modWatch w f).choices = s.choices := rfl

@[simp] theorem State.modFade_pending (l : LineIx) (k : SlotIx) (f : FadeRec → FadeRec) :
    (s.modFade l k f).pending = s.pending := rfl
@[simp] theorem State.modFade_trunk (l : LineIx) (k : SlotIx) (f : FadeRec → FadeRec) :
    (s.modFade l k f).trunk = s.trunk := rfl
@[simp] theorem State.modFade_cmd (l : LineIx) (k : SlotIx) (f : FadeRec → FadeRec) :
    (s.modFade l k f).cmd = s.cmd := rfl
@[simp] theorem State.modFade_params (l : LineIx) (k : SlotIx) (f : FadeRec → FadeRec) :
    (s.modFade l k f).params = s.params := rfl
@[simp] theorem State.modFade_lines (l : LineIx) (k : SlotIx) (f : FadeRec → FadeRec) :
    (s.modFade l k f).lines = s.lines := rfl
@[simp] theorem State.modFade_bays (l : LineIx) (k : SlotIx) (f : FadeRec → FadeRec) :
    (s.modFade l k f).bays = s.bays := rfl
@[simp] theorem State.modFade_watch (l : LineIx) (k : SlotIx) (f : FadeRec → FadeRec) :
    (s.modFade l k f).watch = s.watch := rfl
@[simp] theorem State.modFade_curves (l : LineIx) (k : SlotIx) (f : FadeRec → FadeRec) :
    (s.modFade l k f).curves = s.curves := rfl
@[simp] theorem State.modFade_curvesInForce (l : LineIx) (k : SlotIx) (f : FadeRec → FadeRec) :
    (s.modFade l k f).curvesInForce = s.curvesInForce := rfl
@[simp] theorem State.modFade_parks (l : LineIx) (k : SlotIx) (f : FadeRec → FadeRec) :
    (s.modFade l k f).parks = s.parks := rfl
@[simp] theorem State.modFade_fades (l : LineIx) (k : SlotIx) (f : FadeRec → FadeRec) :
    (s.modFade l k f).fades = upd s.fades l (fun row => upd row k f) := rfl
@[simp] theorem State.modFade_groups (l : LineIx) (k : SlotIx) (f : FadeRec → FadeRec) :
    (s.modFade l k f).groups = s.groups := rfl
@[simp] theorem State.modFade_triggers (l : LineIx) (k : SlotIx) (f : FadeRec → FadeRec) :
    (s.modFade l k f).triggers = s.triggers := rfl
@[simp] theorem State.modFade_throttle (l : LineIx) (k : SlotIx) (f : FadeRec → FadeRec) :
    (s.modFade l k f).throttle = s.throttle := rfl
@[simp] theorem State.modFade_scenes (l : LineIx) (k : SlotIx) (f : FadeRec → FadeRec) :
    (s.modFade l k f).scenes = s.scenes := rfl
@[simp] theorem State.modFade_insts (l : LineIx) (k : SlotIx) (f : FadeRec → FadeRec) :
    (s.modFade l k f).insts = s.insts := rfl
@[simp] theorem State.modFade_waitList (l : LineIx) (k : SlotIx) (f : FadeRec → FadeRec) :
    (s.modFade l k f).waitList = s.waitList := rfl
@[simp] theorem State.modFade_cues (l : LineIx) (k : SlotIx) (f : FadeRec → FadeRec) :
    (s.modFade l k f).cues = s.cues := rfl
@[simp] theorem State.modFade_zones (l : LineIx) (k : SlotIx) (f : FadeRec → FadeRec) :
    (s.modFade l k f).zones = s.zones := rfl
@[simp] theorem State.modFade_pool (l : LineIx) (k : SlotIx) (f : FadeRec → FadeRec) :
    (s.modFade l k f).pool = s.pool := rfl
@[simp] theorem State.modFade_axes (l : LineIx) (k : SlotIx) (f : FadeRec → FadeRec) :
    (s.modFade l k f).axes = s.axes := rfl
@[simp] theorem State.modFade_checks (l : LineIx) (k : SlotIx) (f : FadeRec → FadeRec) :
    (s.modFade l k f).checks = s.checks := rfl
@[simp] theorem State.modFade_choices (l : LineIx) (k : SlotIx) (f : FadeRec → FadeRec) :
    (s.modFade l k f).choices = s.choices := rfl

@[simp] theorem State.setPark_pending (l : LineIx) (k : SlotIx) (p : Option Nat) :
    (s.setPark l k p).pending = s.pending := rfl
@[simp] theorem State.setPark_trunk (l : LineIx) (k : SlotIx) (p : Option Nat) :
    (s.setPark l k p).trunk = s.trunk := rfl
@[simp] theorem State.setPark_cmd (l : LineIx) (k : SlotIx) (p : Option Nat) : (s.setPark l k p).cmd = s.cmd := rfl
@[simp] theorem State.setPark_params (l : LineIx) (k : SlotIx) (p : Option Nat) :
    (s.setPark l k p).params = s.params := rfl
@[simp] theorem State.setPark_lines (l : LineIx) (k : SlotIx) (p : Option Nat) :
    (s.setPark l k p).lines = s.lines := rfl
@[simp] theorem State.setPark_bays (l : LineIx) (k : SlotIx) (p : Option Nat) : (s.setPark l k p).bays = s.bays := rfl
@[simp] theorem State.setPark_watch (l : LineIx) (k : SlotIx) (p : Option Nat) :
    (s.setPark l k p).watch = s.watch := rfl
@[simp] theorem State.setPark_curves (l : LineIx) (k : SlotIx) (p : Option Nat) :
    (s.setPark l k p).curves = s.curves := rfl
@[simp] theorem State.setPark_curvesInForce (l : LineIx) (k : SlotIx) (p : Option Nat) :
    (s.setPark l k p).curvesInForce = s.curvesInForce := rfl
@[simp] theorem State.setPark_parks (l : LineIx) (k : SlotIx) (p : Option Nat) :
    (s.setPark l k p).parks = upd s.parks l (fun row => row.set k p) := rfl
@[simp] theorem State.setPark_fades (l : LineIx) (k : SlotIx) (p : Option Nat) :
    (s.setPark l k p).fades = s.fades := rfl
@[simp] theorem State.setPark_groups (l : LineIx) (k : SlotIx) (p : Option Nat) :
    (s.setPark l k p).groups = s.groups := rfl
@[simp] theorem State.setPark_triggers (l : LineIx) (k : SlotIx) (p : Option Nat) :
    (s.setPark l k p).triggers = s.triggers := rfl
@[simp] theorem State.setPark_throttle (l : LineIx) (k : SlotIx) (p : Option Nat) :
    (s.setPark l k p).throttle = s.throttle := rfl
@[simp] theorem State.setPark_scenes (l : LineIx) (k : SlotIx) (p : Option Nat) :
    (s.setPark l k p).scenes = s.scenes := rfl
@[simp] theorem State.setPark_insts (l : LineIx) (k : SlotIx) (p : Option Nat) :
    (s.setPark l k p).insts = s.insts := rfl
@[simp] theorem State.setPark_waitList (l : LineIx) (k : SlotIx) (p : Option Nat) :
    (s.setPark l k p).waitList = s.waitList := rfl
@[simp] theorem State.setPark_cues (l : LineIx) (k : SlotIx) (p : Option Nat) : (s.setPark l k p).cues = s.cues := rfl
@[simp] theorem State.setPark_zones (l : LineIx) (k : SlotIx) (p : Option Nat) :
    (s.setPark l k p).zones = s.zones := rfl
@[simp] theorem State.setPark_pool (l : LineIx) (k : SlotIx) (p : Option Nat) : (s.setPark l k p).pool = s.pool := rfl
@[simp] theorem State.setPark_axes (l : LineIx) (k : SlotIx) (p : Option Nat) : (s.setPark l k p).axes = s.axes := rfl
@[simp] theorem State.setPark_checks (l : LineIx) (k : SlotIx) (p : Option Nat) :
    (s.setPark l k p).checks = s.checks := rfl
@[simp] theorem State.setPark_choices (l : LineIx) (k : SlotIx) (p : Option Nat) :
    (s.setPark l k p).choices = s.choices := rfl

@[simp] theorem State.modGroup_pending (g : GroupIx) (f : Group → Group) : (s.modGroup g f).pending = s.pending := rfl
@[simp] theorem State.modGroup_trunk (g : GroupIx) (f : Group → Group) : (s.modGroup g f).trunk = s.trunk := rfl
@[simp] theorem State.modGroup_cmd (g : GroupIx) (f : Group → Group) : (s.modGroup g f).cmd = s.cmd := rfl
@[simp] theorem State.modGroup_params (g : GroupIx) (f : Group → Group) : (s.modGroup g f).params = s.params := rfl
@[simp] theorem State.modGroup_lines (g : GroupIx) (f : Group → Group) : (s.modGroup g f).lines = s.lines := rfl
@[simp] theorem State.modGroup_bays (g : GroupIx) (f : Group → Group) : (s.modGroup g f).bays = s.bays := rfl
@[simp] theorem State.modGroup_watch (g : GroupIx) (f : Group → Group) : (s.modGroup g f).watch = s.watch := rfl
@[simp] theorem State.modGroup_curves (g : GroupIx) (f : Group → Group) : (s.modGroup g f).curves = s.curves := rfl
@[simp] theorem State.modGroup_curvesInForce (g : GroupIx) (f : Group → Group) :
    (s.modGroup g f).curvesInForce = s.curvesInForce := rfl
@[simp] theorem State.modGroup_parks (g : GroupIx) (f : Group → Group) : (s.modGroup g f).parks = s.parks := rfl
@[simp] theorem State.modGroup_fades (g : GroupIx) (f : Group → Group) : (s.modGroup g f).fades = s.fades := rfl
@[simp] theorem State.modGroup_groups (g : GroupIx) (f : Group → Group) :
    (s.modGroup g f).groups = upd s.groups g f := rfl
@[simp] theorem State.modGroup_triggers (g : GroupIx) (f : Group → Group) :
    (s.modGroup g f).triggers = s.triggers := rfl
@[simp] theorem State.modGroup_throttle (g : GroupIx) (f : Group → Group) :
    (s.modGroup g f).throttle = s.throttle := rfl
@[simp] theorem State.modGroup_scenes (g : GroupIx) (f : Group → Group) : (s.modGroup g f).scenes = s.scenes := rfl
@[simp] theorem State.modGroup_insts (g : GroupIx) (f : Group → Group) : (s.modGroup g f).insts = s.insts := rfl
@[simp] theorem State.modGroup_waitList (g : GroupIx) (f : Group → Group) :
    (s.modGroup g f).waitList = s.waitList := rfl
@[simp] theorem State.modGroup_cues (g : GroupIx) (f : Group → Group) : (s.modGroup g f).cues = s.cues := rfl
@[simp] theorem State.modGroup_zones (g : GroupIx) (f : Group → Group) : (s.modGroup g f).zones = s.zones := rfl
@[simp] theorem State.modGroup_pool (g : GroupIx) (f : Group → Group) : (s.modGroup g f).pool = s.pool := rfl
@[simp] theorem State.modGroup_axes (g : GroupIx) (f : Group → Group) : (s.modGroup g f).axes = s.axes := rfl
@[simp] theorem State.modGroup_checks (g : GroupIx) (f : Group → Group) : (s.modGroup g f).checks = s.checks := rfl
@[simp] theorem State.modGroup_choices (g : GroupIx) (f : Group → Group) : (s.modGroup g f).choices = s.choices := rfl

@[simp] theorem State.modTrig_pending (e : TrigIx) (f : TrigEntry → TrigEntry) :
    (s.modTrig e f).pending = s.pending := rfl
@[simp] theorem State.modTrig_trunk (e : TrigIx) (f : TrigEntry → TrigEntry) : (s.modTrig e f).trunk = s.trunk := rfl
@[simp] theorem State.modTrig_cmd (e : TrigIx) (f : TrigEntry → TrigEntry) : (s.modTrig e f).cmd = s.cmd := rfl
@[simp] theorem State.modTrig_params (e : TrigIx) (f : TrigEntry → TrigEntry) :
    (s.modTrig e f).params = s.params := rfl
@[simp] theorem State.modTrig_lines (e : TrigIx) (f : TrigEntry → TrigEntry) : (s.modTrig e f).lines = s.lines := rfl
@[simp] theorem State.modTrig_bays (e : TrigIx) (f : TrigEntry → TrigEntry) : (s.modTrig e f).bays = s.bays := rfl
@[simp] theorem State.modTrig_watch (e : TrigIx) (f : TrigEntry → TrigEntry) : (s.modTrig e f).watch = s.watch := rfl
@[simp] theorem State.modTrig_curves (e : TrigIx) (f : TrigEntry → TrigEntry) :
    (s.modTrig e f).curves = s.curves := rfl
@[simp] theorem State.modTrig_curvesInForce (e : TrigIx) (f : TrigEntry → TrigEntry) :
    (s.modTrig e f).curvesInForce = s.curvesInForce := rfl
@[simp] theorem State.modTrig_parks (e : TrigIx) (f : TrigEntry → TrigEntry) : (s.modTrig e f).parks = s.parks := rfl
@[simp] theorem State.modTrig_fades (e : TrigIx) (f : TrigEntry → TrigEntry) : (s.modTrig e f).fades = s.fades := rfl
@[simp] theorem State.modTrig_groups (e : TrigIx) (f : TrigEntry → TrigEntry) :
    (s.modTrig e f).groups = s.groups := rfl
@[simp] theorem State.modTrig_triggers (e : TrigIx) (f : TrigEntry → TrigEntry) :
    (s.modTrig e f).triggers = upd s.triggers e f := rfl
@[simp] theorem State.modTrig_throttle (e : TrigIx) (f : TrigEntry → TrigEntry) :
    (s.modTrig e f).throttle = s.throttle := rfl
@[simp] theorem State.modTrig_scenes (e : TrigIx) (f : TrigEntry → TrigEntry) :
    (s.modTrig e f).scenes = s.scenes := rfl
@[simp] theorem State.modTrig_insts (e : TrigIx) (f : TrigEntry → TrigEntry) : (s.modTrig e f).insts = s.insts := rfl
@[simp] theorem State.modTrig_waitList (e : TrigIx) (f : TrigEntry → TrigEntry) :
    (s.modTrig e f).waitList = s.waitList := rfl
@[simp] theorem State.modTrig_cues (e : TrigIx) (f : TrigEntry → TrigEntry) : (s.modTrig e f).cues = s.cues := rfl
@[simp] theorem State.modTrig_zones (e : TrigIx) (f : TrigEntry → TrigEntry) : (s.modTrig e f).zones = s.zones := rfl
@[simp] theorem State.modTrig_pool (e : TrigIx) (f : TrigEntry → TrigEntry) : (s.modTrig e f).pool = s.pool := rfl
@[simp] theorem State.modTrig_axes (e : TrigIx) (f : TrigEntry → TrigEntry) : (s.modTrig e f).axes = s.axes := rfl
@[simp] theorem State.modTrig_checks (e : TrigIx) (f : TrigEntry → TrigEntry) :
    (s.modTrig e f).checks = s.checks := rfl
@[simp] theorem State.modTrig_choices (e : TrigIx) (f : TrigEntry → TrigEntry) :
    (s.modTrig e f).choices = s.choices := rfl

@[simp] theorem State.modScene_pending (c : SceneIx) (f : Scene → Scene) : (s.modScene c f).pending = s.pending := rfl
@[simp] theorem State.modScene_trunk (c : SceneIx) (f : Scene → Scene) : (s.modScene c f).trunk = s.trunk := rfl
@[simp] theorem State.modScene_cmd (c : SceneIx) (f : Scene → Scene) : (s.modScene c f).cmd = s.cmd := rfl
@[simp] theorem State.modScene_params (c : SceneIx) (f : Scene → Scene) : (s.modScene c f).params = s.params := rfl
@[simp] theorem State.modScene_lines (c : SceneIx) (f : Scene → Scene) : (s.modScene c f).lines = s.lines := rfl
@[simp] theorem State.modScene_bays (c : SceneIx) (f : Scene → Scene) : (s.modScene c f).bays = s.bays := rfl
@[simp] theorem State.modScene_watch (c : SceneIx) (f : Scene → Scene) : (s.modScene c f).watch = s.watch := rfl
@[simp] theorem State.modScene_curves (c : SceneIx) (f : Scene → Scene) : (s.modScene c f).curves = s.curves := rfl
@[simp] theorem State.modScene_curvesInForce (c : SceneIx) (f : Scene → Scene) :
    (s.modScene c f).curvesInForce = s.curvesInForce := rfl
@[simp] theorem State.modScene_parks (c : SceneIx) (f : Scene → Scene) : (s.modScene c f).parks = s.parks := rfl
@[simp] theorem State.modScene_fades (c : SceneIx) (f : Scene → Scene) : (s.modScene c f).fades = s.fades := rfl
@[simp] theorem State.modScene_groups (c : SceneIx) (f : Scene → Scene) : (s.modScene c f).groups = s.groups := rfl
@[simp] theorem State.modScene_triggers (c : SceneIx) (f : Scene → Scene) :
    (s.modScene c f).triggers = s.triggers := rfl
@[simp] theorem State.modScene_throttle (c : SceneIx) (f : Scene → Scene) :
    (s.modScene c f).throttle = s.throttle := rfl
@[simp] theorem State.modScene_scenes (c : SceneIx) (f : Scene → Scene) :
    (s.modScene c f).scenes = upd s.scenes c f := rfl
@[simp] theorem State.modScene_insts (c : SceneIx) (f : Scene → Scene) : (s.modScene c f).insts = s.insts := rfl
@[simp] theorem State.modScene_waitList (c : SceneIx) (f : Scene → Scene) :
    (s.modScene c f).waitList = s.waitList := rfl
@[simp] theorem State.modScene_cues (c : SceneIx) (f : Scene → Scene) : (s.modScene c f).cues = s.cues := rfl
@[simp] theorem State.modScene_zones (c : SceneIx) (f : Scene → Scene) : (s.modScene c f).zones = s.zones := rfl
@[simp] theorem State.modScene_pool (c : SceneIx) (f : Scene → Scene) : (s.modScene c f).pool = s.pool := rfl
@[simp] theorem State.modScene_axes (c : SceneIx) (f : Scene → Scene) : (s.modScene c f).axes = s.axes := rfl
@[simp] theorem State.modScene_checks (c : SceneIx) (f : Scene → Scene) : (s.modScene c f).checks = s.checks := rfl
@[simp] theorem State.modScene_choices (c : SceneIx) (f : Scene → Scene) : (s.modScene c f).choices = s.choices := rfl

@[simp] theorem State.modInst_pending (i : InstIx) (f : Inst → Inst) : (s.modInst i f).pending = s.pending := rfl
@[simp] theorem State.modInst_trunk (i : InstIx) (f : Inst → Inst) : (s.modInst i f).trunk = s.trunk := rfl
@[simp] theorem State.modInst_cmd (i : InstIx) (f : Inst → Inst) : (s.modInst i f).cmd = s.cmd := rfl
@[simp] theorem State.modInst_params (i : InstIx) (f : Inst → Inst) : (s.modInst i f).params = s.params := rfl
@[simp] theorem State.modInst_lines (i : InstIx) (f : Inst → Inst) : (s.modInst i f).lines = s.lines := rfl
@[simp] theorem State.modInst_bays (i : InstIx) (f : Inst → Inst) : (s.modInst i f).bays = s.bays := rfl
@[simp] theorem State.modInst_watch (i : InstIx) (f : Inst → Inst) : (s.modInst i f).watch = s.watch := rfl
@[simp] theorem State.modInst_curves (i : InstIx) (f : Inst → Inst) : (s.modInst i f).curves = s.curves := rfl
@[simp] theorem State.modInst_curvesInForce (i : InstIx) (f : Inst → Inst) :
    (s.modInst i f).curvesInForce = s.curvesInForce := rfl
@[simp] theorem State.modInst_parks (i : InstIx) (f : Inst → Inst) : (s.modInst i f).parks = s.parks := rfl
@[simp] theorem State.modInst_fades (i : InstIx) (f : Inst → Inst) : (s.modInst i f).fades = s.fades := rfl
@[simp] theorem State.modInst_groups (i : InstIx) (f : Inst → Inst) : (s.modInst i f).groups = s.groups := rfl
@[simp] theorem State.modInst_triggers (i : InstIx) (f : Inst → Inst) : (s.modInst i f).triggers = s.triggers := rfl
@[simp] theorem State.modInst_throttle (i : InstIx) (f : Inst → Inst) : (s.modInst i f).throttle = s.throttle := rfl
@[simp] theorem State.modInst_scenes (i : InstIx) (f : Inst → Inst) : (s.modInst i f).scenes = s.scenes := rfl
@[simp] theorem State.modInst_insts (i : InstIx) (f : Inst → Inst) : (s.modInst i f).insts = upd s.insts i f := rfl
@[simp] theorem State.modInst_waitList (i : InstIx) (f : Inst → Inst) : (s.modInst i f).waitList = s.waitList := rfl
@[simp] theorem State.modInst_cues (i : InstIx) (f : Inst → Inst) : (s.modInst i f).cues = s.cues := rfl
@[simp] theorem State.modInst_zones (i : InstIx) (f : Inst → Inst) : (s.modInst i f).zones = s.zones := rfl
@[simp] theorem State.modInst_pool (i : InstIx) (f : Inst → Inst) : (s.modInst i f).pool = s.pool := rfl
@[simp] theorem State.modInst_axes (i : InstIx) (f : Inst → Inst) : (s.modInst i f).axes = s.axes := rfl
@[simp] theorem State.modInst_checks (i : InstIx) (f : Inst → Inst) : (s.modInst i f).checks = s.checks := rfl
@[simp] theorem State.modInst_choices (i : InstIx) (f : Inst → Inst) : (s.modInst i f).choices = s.choices := rfl

@[simp] theorem State.setWaitList_pending (l : List WaitEntry) : (s.setWaitList l).pending = s.pending := rfl
@[simp] theorem State.setWaitList_trunk (l : List WaitEntry) : (s.setWaitList l).trunk = s.trunk := rfl
@[simp] theorem State.setWaitList_cmd (l : List WaitEntry) : (s.setWaitList l).cmd = s.cmd := rfl
@[simp] theorem State.setWaitList_params (l : List WaitEntry) : (s.setWaitList l).params = s.params := rfl
@[simp] theorem State.setWaitList_lines (l : List WaitEntry) : (s.setWaitList l).lines = s.lines := rfl
@[simp] theorem State.setWaitList_bays (l : List WaitEntry) : (s.setWaitList l).bays = s.bays := rfl
@[simp] theorem State.setWaitList_watch (l : List WaitEntry) : (s.setWaitList l).watch = s.watch := rfl
@[simp] theorem State.setWaitList_curves (l : List WaitEntry) : (s.setWaitList l).curves = s.curves := rfl
@[simp] theorem State.setWaitList_curvesInForce (l : List WaitEntry) :
    (s.setWaitList l).curvesInForce = s.curvesInForce := rfl
@[simp] theorem State.setWaitList_parks (l : List WaitEntry) : (s.setWaitList l).parks = s.parks := rfl
@[simp] theorem State.setWaitList_fades (l : List WaitEntry) : (s.setWaitList l).fades = s.fades := rfl
@[simp] theorem State.setWaitList_groups (l : List WaitEntry) : (s.setWaitList l).groups = s.groups := rfl
@[simp] theorem State.setWaitList_triggers (l : List WaitEntry) : (s.setWaitList l).triggers = s.triggers := rfl
@[simp] theorem State.setWaitList_throttle (l : List WaitEntry) : (s.setWaitList l).throttle = s.throttle := rfl
@[simp] theorem State.setWaitList_scenes (l : List WaitEntry) : (s.setWaitList l).scenes = s.scenes := rfl
@[simp] theorem State.setWaitList_insts (l : List WaitEntry) : (s.setWaitList l).insts = s.insts := rfl
@[simp] theorem State.setWaitList_waitList (l : List WaitEntry) : (s.setWaitList l).waitList = l := rfl
@[simp] theorem State.setWaitList_cues (l : List WaitEntry) : (s.setWaitList l).cues = s.cues := rfl
@[simp] theorem State.setWaitList_zones (l : List WaitEntry) : (s.setWaitList l).zones = s.zones := rfl
@[simp] theorem State.setWaitList_pool (l : List WaitEntry) : (s.setWaitList l).pool = s.pool := rfl
@[simp] theorem State.setWaitList_axes (l : List WaitEntry) : (s.setWaitList l).axes = s.axes := rfl
@[simp] theorem State.setWaitList_checks (l : List WaitEntry) : (s.setWaitList l).checks = s.checks := rfl
@[simp] theorem State.setWaitList_choices (l : List WaitEntry) : (s.setWaitList l).choices = s.choices := rfl

@[simp] theorem State.modZone_pending (z : ZoneIx) (f : Zone → Zone) : (s.modZone z f).pending = s.pending := rfl
@[simp] theorem State.modZone_trunk (z : ZoneIx) (f : Zone → Zone) : (s.modZone z f).trunk = s.trunk := rfl
@[simp] theorem State.modZone_cmd (z : ZoneIx) (f : Zone → Zone) : (s.modZone z f).cmd = s.cmd := rfl
@[simp] theorem State.modZone_params (z : ZoneIx) (f : Zone → Zone) : (s.modZone z f).params = s.params := rfl
@[simp] theorem State.modZone_lines (z : ZoneIx) (f : Zone → Zone) : (s.modZone z f).lines = s.lines := rfl
@[simp] theorem State.modZone_bays (z : ZoneIx) (f : Zone → Zone) : (s.modZone z f).bays = s.bays := rfl
@[simp] theorem State.modZone_watch (z : ZoneIx) (f : Zone → Zone) : (s.modZone z f).watch = s.watch := rfl
@[simp] theorem State.modZone_curves (z : ZoneIx) (f : Zone → Zone) : (s.modZone z f).curves = s.curves := rfl
@[simp] theorem State.modZone_curvesInForce (z : ZoneIx) (f : Zone → Zone) :
    (s.modZone z f).curvesInForce = s.curvesInForce := rfl
@[simp] theorem State.modZone_parks (z : ZoneIx) (f : Zone → Zone) : (s.modZone z f).parks = s.parks := rfl
@[simp] theorem State.modZone_fades (z : ZoneIx) (f : Zone → Zone) : (s.modZone z f).fades = s.fades := rfl
@[simp] theorem State.modZone_groups (z : ZoneIx) (f : Zone → Zone) : (s.modZone z f).groups = s.groups := rfl
@[simp] theorem State.modZone_triggers (z : ZoneIx) (f : Zone → Zone) : (s.modZone z f).triggers = s.triggers := rfl
@[simp] theorem State.modZone_throttle (z : ZoneIx) (f : Zone → Zone) : (s.modZone z f).throttle = s.throttle := rfl
@[simp] theorem State.modZone_scenes (z : ZoneIx) (f : Zone → Zone) : (s.modZone z f).scenes = s.scenes := rfl
@[simp] theorem State.modZone_insts (z : ZoneIx) (f : Zone → Zone) : (s.modZone z f).insts = s.insts := rfl
@[simp] theorem State.modZone_waitList (z : ZoneIx) (f : Zone → Zone) : (s.modZone z f).waitList = s.waitList := rfl
@[simp] theorem State.modZone_cues (z : ZoneIx) (f : Zone → Zone) : (s.modZone z f).cues = s.cues := rfl
@[simp] theorem State.modZone_zones (z : ZoneIx) (f : Zone → Zone) : (s.modZone z f).zones = upd s.zones z f := rfl
@[simp] theorem State.modZone_pool (z : ZoneIx) (f : Zone → Zone) : (s.modZone z f).pool = s.pool := rfl
@[simp] theorem State.modZone_axes (z : ZoneIx) (f : Zone → Zone) : (s.modZone z f).axes = s.axes := rfl
@[simp] theorem State.modZone_checks (z : ZoneIx) (f : Zone → Zone) : (s.modZone z f).checks = s.checks := rfl
@[simp] theorem State.modZone_choices (z : ZoneIx) (f : Zone → Zone) : (s.modZone z f).choices = s.choices := rfl

@[simp] theorem State.modPool_pending (f : Pool → Pool) : (s.modPool f).pending = s.pending := rfl
@[simp] theorem State.modPool_trunk (f : Pool → Pool) : (s.modPool f).trunk = s.trunk := rfl
@[simp] theorem State.modPool_cmd (f : Pool → Pool) : (s.modPool f).cmd = s.cmd := rfl
@[simp] theorem State.modPool_params (f : Pool → Pool) : (s.modPool f).params = s.params := rfl
@[simp] theorem State.modPool_lines (f : Pool → Pool) : (s.modPool f).lines = s.lines := rfl
@[simp] theorem State.modPool_bays (f : Pool → Pool) : (s.modPool f).bays = s.bays := rfl
@[simp] theorem State.modPool_watch (f : Pool → Pool) : (s.modPool f).watch = s.watch := rfl
@[simp] theorem State.modPool_curves (f : Pool → Pool) : (s.modPool f).curves = s.curves := rfl
@[simp] theorem State.modPool_curvesInForce (f : Pool → Pool) : (s.modPool f).curvesInForce = s.curvesInForce := rfl
@[simp] theorem State.modPool_parks (f : Pool → Pool) : (s.modPool f).parks = s.parks := rfl
@[simp] theorem State.modPool_fades (f : Pool → Pool) : (s.modPool f).fades = s.fades := rfl
@[simp] theorem State.modPool_groups (f : Pool → Pool) : (s.modPool f).groups = s.groups := rfl
@[simp] theorem State.modPool_triggers (f : Pool → Pool) : (s.modPool f).triggers = s.triggers := rfl
@[simp] theorem State.modPool_throttle (f : Pool → Pool) : (s.modPool f).throttle = s.throttle := rfl
@[simp] theorem State.modPool_scenes (f : Pool → Pool) : (s.modPool f).scenes = s.scenes := rfl
@[simp] theorem State.modPool_insts (f : Pool → Pool) : (s.modPool f).insts = s.insts := rfl
@[simp] theorem State.modPool_waitList (f : Pool → Pool) : (s.modPool f).waitList = s.waitList := rfl
@[simp] theorem State.modPool_cues (f : Pool → Pool) : (s.modPool f).cues = s.cues := rfl
@[simp] theorem State.modPool_zones (f : Pool → Pool) : (s.modPool f).zones = s.zones := rfl
@[simp] theorem State.modPool_pool (f : Pool → Pool) : (s.modPool f).pool = f s.pool := rfl
@[simp] theorem State.modPool_axes (f : Pool → Pool) : (s.modPool f).axes = s.axes := rfl
@[simp] theorem State.modPool_checks (f : Pool → Pool) : (s.modPool f).checks = s.checks := rfl
@[simp] theorem State.modPool_choices (f : Pool → Pool) : (s.modPool f).choices = s.choices := rfl

@[simp] theorem State.modAxis_pending (a : AxisIx) (f : Axis → Axis) : (s.modAxis a f).pending = s.pending := rfl
@[simp] theorem State.modAxis_trunk (a : AxisIx) (f : Axis → Axis) : (s.modAxis a f).trunk = s.trunk := rfl
@[simp] theorem State.modAxis_cmd (a : AxisIx) (f : Axis → Axis) : (s.modAxis a f).cmd = s.cmd := rfl
@[simp] theorem State.modAxis_params (a : AxisIx) (f : Axis → Axis) : (s.modAxis a f).params = s.params := rfl
@[simp] theorem State.modAxis_lines (a : AxisIx) (f : Axis → Axis) : (s.modAxis a f).lines = s.lines := rfl
@[simp] theorem State.modAxis_bays (a : AxisIx) (f : Axis → Axis) : (s.modAxis a f).bays = s.bays := rfl
@[simp] theorem State.modAxis_watch (a : AxisIx) (f : Axis → Axis) : (s.modAxis a f).watch = s.watch := rfl
@[simp] theorem State.modAxis_curves (a : AxisIx) (f : Axis → Axis) : (s.modAxis a f).curves = s.curves := rfl
@[simp] theorem State.modAxis_curvesInForce (a : AxisIx) (f : Axis → Axis) :
    (s.modAxis a f).curvesInForce = s.curvesInForce := rfl
@[simp] theorem State.modAxis_parks (a : AxisIx) (f : Axis → Axis) : (s.modAxis a f).parks = s.parks := rfl
@[simp] theorem State.modAxis_fades (a : AxisIx) (f : Axis → Axis) : (s.modAxis a f).fades = s.fades := rfl
@[simp] theorem State.modAxis_groups (a : AxisIx) (f : Axis → Axis) : (s.modAxis a f).groups = s.groups := rfl
@[simp] theorem State.modAxis_triggers (a : AxisIx) (f : Axis → Axis) : (s.modAxis a f).triggers = s.triggers := rfl
@[simp] theorem State.modAxis_throttle (a : AxisIx) (f : Axis → Axis) : (s.modAxis a f).throttle = s.throttle := rfl
@[simp] theorem State.modAxis_scenes (a : AxisIx) (f : Axis → Axis) : (s.modAxis a f).scenes = s.scenes := rfl
@[simp] theorem State.modAxis_insts (a : AxisIx) (f : Axis → Axis) : (s.modAxis a f).insts = s.insts := rfl
@[simp] theorem State.modAxis_waitList (a : AxisIx) (f : Axis → Axis) : (s.modAxis a f).waitList = s.waitList := rfl
@[simp] theorem State.modAxis_cues (a : AxisIx) (f : Axis → Axis) : (s.modAxis a f).cues = s.cues := rfl
@[simp] theorem State.modAxis_zones (a : AxisIx) (f : Axis → Axis) : (s.modAxis a f).zones = s.zones := rfl
@[simp] theorem State.modAxis_pool (a : AxisIx) (f : Axis → Axis) : (s.modAxis a f).pool = s.pool := rfl
@[simp] theorem State.modAxis_axes (a : AxisIx) (f : Axis → Axis) : (s.modAxis a f).axes = upd s.axes a f := rfl
@[simp] theorem State.modAxis_checks (a : AxisIx) (f : Axis → Axis) : (s.modAxis a f).checks = s.checks := rfl
@[simp] theorem State.modAxis_choices (a : AxisIx) (f : Axis → Axis) : (s.modAxis a f).choices = s.choices := rfl

@[simp] theorem State.modChecks_pending (f : CheckUnit → CheckUnit) : (s.modChecks f).pending = s.pending := rfl
@[simp] theorem State.modChecks_trunk (f : CheckUnit → CheckUnit) : (s.modChecks f).trunk = s.trunk := rfl
@[simp] theorem State.modChecks_cmd (f : CheckUnit → CheckUnit) : (s.modChecks f).cmd = s.cmd := rfl
@[simp] theorem State.modChecks_params (f : CheckUnit → CheckUnit) : (s.modChecks f).params = s.params := rfl
@[simp] theorem State.modChecks_lines (f : CheckUnit → CheckUnit) : (s.modChecks f).lines = s.lines := rfl
@[simp] theorem State.modChecks_bays (f : CheckUnit → CheckUnit) : (s.modChecks f).bays = s.bays := rfl
@[simp] theorem State.modChecks_watch (f : CheckUnit → CheckUnit) : (s.modChecks f).watch = s.watch := rfl
@[simp] theorem State.modChecks_curves (f : CheckUnit → CheckUnit) : (s.modChecks f).curves = s.curves := rfl
@[simp] theorem State.modChecks_curvesInForce (f : CheckUnit → CheckUnit) :
    (s.modChecks f).curvesInForce = s.curvesInForce := rfl
@[simp] theorem State.modChecks_parks (f : CheckUnit → CheckUnit) : (s.modChecks f).parks = s.parks := rfl
@[simp] theorem State.modChecks_fades (f : CheckUnit → CheckUnit) : (s.modChecks f).fades = s.fades := rfl
@[simp] theorem State.modChecks_groups (f : CheckUnit → CheckUnit) : (s.modChecks f).groups = s.groups := rfl
@[simp] theorem State.modChecks_triggers (f : CheckUnit → CheckUnit) : (s.modChecks f).triggers = s.triggers := rfl
@[simp] theorem State.modChecks_throttle (f : CheckUnit → CheckUnit) : (s.modChecks f).throttle = s.throttle := rfl
@[simp] theorem State.modChecks_scenes (f : CheckUnit → CheckUnit) : (s.modChecks f).scenes = s.scenes := rfl
@[simp] theorem State.modChecks_insts (f : CheckUnit → CheckUnit) : (s.modChecks f).insts = s.insts := rfl
@[simp] theorem State.modChecks_waitList (f : CheckUnit → CheckUnit) : (s.modChecks f).waitList = s.waitList := rfl
@[simp] theorem State.modChecks_cues (f : CheckUnit → CheckUnit) : (s.modChecks f).cues = s.cues := rfl
@[simp] theorem State.modChecks_zones (f : CheckUnit → CheckUnit) : (s.modChecks f).zones = s.zones := rfl
@[simp] theorem State.modChecks_pool (f : CheckUnit → CheckUnit) : (s.modChecks f).pool = s.pool := rfl
@[simp] theorem State.modChecks_axes (f : CheckUnit → CheckUnit) : (s.modChecks f).axes = s.axes := rfl
@[simp] theorem State.modChecks_checks (f : CheckUnit → CheckUnit) : (s.modChecks f).checks = f s.checks := rfl
@[simp] theorem State.modChecks_choices (f : CheckUnit → CheckUnit) : (s.modChecks f).choices = s.choices := rfl

@[simp] theorem State.choose_pending : (s.choose).pending = s.pending := rfl
@[simp] theorem State.choose_trunk : (s.choose).trunk = s.trunk := rfl
@[simp] theorem State.choose_cmd : (s.choose).cmd = s.cmd := rfl
@[simp] theorem State.choose_params : (s.choose).params = s.params := rfl
@[simp] theorem State.choose_lines : (s.choose).lines = s.lines := rfl
@[simp] theorem State.choose_bays : (s.choose).bays = s.bays := rfl
@[simp] theorem State.choose_watch : (s.choose).watch = s.watch := rfl
@[simp] theorem State.choose_curves : (s.choose).curves = s.curves := rfl
@[simp] theorem State.choose_curvesInForce : (s.choose).curvesInForce = s.curvesInForce := rfl
@[simp] theorem State.choose_parks : (s.choose).parks = s.parks := rfl
@[simp] theorem State.choose_fades : (s.choose).fades = s.fades := rfl
@[simp] theorem State.choose_groups : (s.choose).groups = s.groups := rfl
@[simp] theorem State.choose_triggers : (s.choose).triggers = s.triggers := rfl
@[simp] theorem State.choose_throttle : (s.choose).throttle = s.throttle := rfl
@[simp] theorem State.choose_scenes : (s.choose).scenes = s.scenes := rfl
@[simp] theorem State.choose_insts : (s.choose).insts = s.insts := rfl
@[simp] theorem State.choose_waitList : (s.choose).waitList = s.waitList := rfl
@[simp] theorem State.choose_cues : (s.choose).cues = s.cues := rfl
@[simp] theorem State.choose_zones : (s.choose).zones = s.zones := rfl
@[simp] theorem State.choose_pool : (s.choose).pool = s.pool := rfl
@[simp] theorem State.choose_axes : (s.choose).axes = s.axes := rfl
@[simp] theorem State.choose_checks : (s.choose).checks = s.checks := rfl
@[simp] theorem State.choose_choices : (s.choose).choices = s.choices + 1 := rfl

end Sys2Proof.Machine
end

