-- ==== Sys2Proof/Laws/Touch.lean ====
section
/-! SUPPORT. What each shared operation can change: one lemma per operation, which names the parts of the state it may
touch and says that all it does to the Trunk Port is to place frames in the own queue. A proof about an instruction cites
these and does not unfold the operation. -/

namespace Sys2Proof.Machine

theorem State.same_refl (s : State) (p : Part) : s.same s p := by cases p <;> rfl

theorem State.same_trans {s t u : State} {p : Part} (h : s.same t p) (k : t.same u p) : s.same u p := by
  cases p <;> exact Eq.trans k h

/-- A Trunk Port that other blocks have placed frames in: each placing finds room in the own queue and starts the frame
when port A is idle (R6, R7). -/
inductive Placed : Trunk → Trunk → Prop
  | none (t : Trunk) : Placed t t
  | place {t u : Trunk} (f : OwnFrame) (h : Placed t u) (room : u.own.length < Config.ownMax) :
      Placed t (Trunk.arbitrate { u with own := u.own ++ [f] })

theorem Placed.trans {t u v : Trunk} (h : Placed t u) (k : Placed u v) : Placed t v := by
  induction k with
  | none => exact h
  | place f _ room ih => exact .place f ih room

/-- What the arbiter leaves as it is. -/
theorem Trunk.arbitrate_keeps (t : Trunk) :
    t.arbitrate.linkA = t.linkA ∧ t.arbitrate.linkB = t.linkB ∧ t.arbitrate.bOut = t.bOut ∧
      t.arbitrate.station = t.station ∧ t.arbitrate.offset = t.offset ∧ t.arbitrate.now = t.now ∧
      t.arbitrate.linkErrors = t.linkErrors ∧ t.arbitrate.downDrops = t.downDrops ∧
      t.arbitrate.returnDrops = t.returnDrops ∧ t.arbitrate.busyDiscards = t.busyDiscards := by
  unfold Trunk.arbitrate
  split
  · split <;> exact ⟨rfl, rfl, rfl, rfl, rfl, rfl, rfl, rfl, rfl, rfl⟩
  · exact ⟨rfl, rfl, rfl, rfl, rfl, rfl, rfl, rfl, rfl, rfl⟩

/-- What placing frames leaves as it is. -/
theorem Placed.keeps {t u : Trunk} (h : Placed t u) :
    u.linkA = t.linkA ∧ u.linkB = t.linkB ∧ u.bOut = t.bOut ∧ u.station = t.station ∧ u.offset = t.offset ∧
      u.now = t.now ∧ u.linkErrors = t.linkErrors ∧ u.downDrops = t.downDrops ∧ u.returnDrops = t.returnDrops ∧
      u.busyDiscards = t.busyDiscards := by
  induction h with
  | none => exact ⟨rfl, rfl, rfl, rfl, rfl, rfl, rfl, rfl, rfl, rfl⟩
  | @place u f _ _ ih =>
    obtain ⟨a, b, c, d, e, f', g, i, j, k⟩ := ih
    obtain ⟨a', b', c', d', e', f'', g', i', j', k'⟩ := Trunk.arbitrate_keeps { u with own := u.own ++ [f] }
    exact ⟨a'.trans a, b'.trans b, c'.trans c, d'.trans d, e'.trans e, f''.trans f', g'.trans g, i'.trans i, j'.trans j,
      k'.trans k⟩

/-- The parts outside a list are the same, and the Trunk Port has at most had frames placed. -/
structure Touches (ps : List Part) (s t : State) : Prop where
  same : ∀ p, p ∉ ps → s.same t p
  placed : Placed s.trunk t.trunk

variable {s t u : State} {ps qs : List Part}

theorem Touches.refl (ps : List Part) (s : State) : Touches ps s s := ⟨fun p _ => s.same_refl p, .none _⟩

theorem Touches.mono (h : Touches ps s t) (sub : ∀ p, p ∈ ps → p ∈ qs) : Touches qs s t :=
  ⟨fun p hp => h.same p (fun m => hp (sub p m)), h.placed⟩

theorem Touches.trans (h : Touches ps s t) (k : Touches ps t u) : Touches ps s u :=
  ⟨fun p hp => State.same_trans (h.same p hp) (k.same p hp), h.placed.trans k.placed⟩

theorem Touches.now (h : Touches ps s t) : t.now = s.now := h.placed.keeps.2.2.2.2.2.1

theorem Touches.ite {c : Prop} [Decidable c] (h : Touches ps s t) (k : Touches ps s u) :
    Touches ps s (if c then t else u) := by
  split <;> assumption

theorem Touches.overList {α : Type} (l : List α) (f : α → State → State) (s : State)
    (h : ∀ x t, Touches ps t (f x t)) : Touches ps s (overList l f s) := by
  unfold Machine.overList
  induction l generalizing s with
  | nil => exact .refl _ _
  | cons x l ih => exact (h x s).trans (ih (f x s))

theorem Touches.overAll (n : Nat) (f : Fin n → State → State) (s : State) (h : ∀ i t, Touches ps t (f i t)) :
    Touches ps s (overAll n f s) :=
  Touches.overList (List.finRange n) f s h

theorem gather_aux {α β : Type} (l : List α) (f : α → State → State × List β) (r : State × List β)
    (h : ∀ x t, Touches ps t (f x t).1) :
    Touches ps r.1 (l.foldl (fun t x => let q := f x t.1; (q.1, t.2 ++ q.2)) r).1 := by
  induction l generalizing r with
  | nil => exact .refl _ _
  | cons x l ih => exact (h x r.1).trans (ih ((f x r.1).1, r.2 ++ (f x r.1).2))

theorem Touches.gather {α β : Type} (l : List α) (f : α → State → State × List β) (s : State)
    (h : ∀ x t, Touches ps t (f x t).1) : Touches ps s (gather l f s).1 :=
  gather_aux l f (s, []) h

theorem Touches.eitherOrder {f g : State → State} (s : State) (m : Part.choices ∈ ps) (hf : ∀ t, Touches ps t (f t))
    (hg : ∀ t, Touches ps t (g t)) : Touches ps s (eitherOrder f g s) := by
  have hc : Touches ps s s.choose := by
    refine ⟨fun p hp => ?_, .none _⟩
    cases p <;> first | rfl | exact absurd m hp
  unfold Machine.eitherOrder
  split
  · exact (hc.trans (hf _)).trans (hg _)
  · exact (hc.trans (hg _)).trans (hf _)

/-! ## Updates of one record -/

theorem Touches.of_same (h : ∀ p, p ∉ ps → s.same t p) (k : t.trunk = s.trunk) : Touches ps s t :=
  ⟨h, k ▸ .none _⟩

theorem touches_modLine (l : LineIx) (f : LineEngine → LineEngine) (s : State) : Touches [.lines] s (s.modLine l f) :=
  .of_same (fun p hp => by cases p <;> first | rfl | exact absurd (by decide) hp) rfl
theorem touches_modBay (b : BayIx) (f : Bay → Bay) (s : State) : Touches [.bays] s (s.modBay b f) :=
  .of_same (fun p hp => by cases p <;> first | rfl | exact absurd (by decide) hp) rfl
theorem touches_modWatch (w : WatchIx) (f : Watch → Watch) (s : State) : Touches [.watch] s (s.modWatch w f) :=
  .of_same (fun p hp => by cases p <;> first | rfl | exact absurd (by decide) hp) rfl
theorem touches_modFade (l : LineIx) (k : SlotIx) (f : FadeRec → FadeRec) (s : State) :
    Touches [.fades] s (s.modFade l k f) :=
  .of_same (fun p hp => by cases p <;> first | rfl | exact absurd (by decide) hp) rfl
theorem touches_setPark (l : LineIx) (k : SlotIx) (v : Option Nat) (s : State) : Touches [.parks] s (s.setPark l k v) :=
  .of_same (fun p hp => by cases p <;> first | rfl | exact absurd (by decide) hp) rfl
theorem touches_modGroup (g : GroupIx) (f : Group → Group) (s : State) : Touches [.groups] s (s.modGroup g f) :=
  .of_same (fun p hp => by cases p <;> first | rfl | exact absurd (by decide) hp) rfl
theorem touches_modTrig (e : TrigIx) (f : TrigEntry → TrigEntry) (s : State) : Touches [.triggers] s (s.modTrig e f) :=
  .of_same (fun p hp => by cases p <;> first | rfl | exact absurd (by decide) hp) rfl
theorem touches_modScene (c : SceneIx) (f : Scene → Scene) (s : State) : Touches [.scenes] s (s.modScene c f) :=
  .of_same (fun p hp => by cases p <;> first | rfl | exact absurd (by decide) hp) rfl
theorem touches_modInst (i : InstIx) (f : Inst → Inst) (s : State) : Touches [.insts] s (s.modInst i f) :=
  .of_same (fun p hp => by cases p <;> first | rfl | exact absurd (by decide) hp) rfl
theorem touches_setWaitList (l : List WaitEntry) (s : State) : Touches [.waitList] s (s.setWaitList l) :=
  .of_same (fun p hp => by cases p <;> first | rfl | exact absurd (by decide) hp) rfl
theorem touches_modZone (z : ZoneIx) (f : Zone → Zone) (s : State) : Touches [.zones] s (s.modZone z f) :=
  .of_same (fun p hp => by cases p <;> first | rfl | exact absurd (by decide) hp) rfl
theorem touches_modPool (f : Pool → Pool) (s : State) : Touches [.pool] s (s.modPool f) :=
  .of_same (fun p hp => by cases p <;> first | rfl | exact absurd (by decide) hp) rfl
theorem touches_modAxis (a : AxisIx) (f : Axis → Axis) (s : State) : Touches [.axes] s (s.modAxis a f) :=
  .of_same (fun p hp => by cases p <;> first | rfl | exact absurd (by decide) hp) rfl
theorem touches_modChecks (f : CheckUnit → CheckUnit) (s : State) : Touches [.checks] s (s.modChecks f) :=
  .of_same (fun p hp => by cases p <;> first | rfl | exact absurd (by decide) hp) rfl
theorem touches_choose (s : State) : Touches [.choices] s s.choose :=
  .of_same (fun p hp => by cases p <;> first | rfl | exact absurd (by decide) hp) rfl

/-! ## Reports and checks -/

/-- What offering a report can touch. -/
abbrev reportParts : List Part := [.trunk, .checks]

theorem touches_placeOwn (f : OwnFrame) (s : State) (room : s.ownRoom = true) : Touches [.trunk] s (s.placeOwn f) := by
  refine ⟨fun p hp => by cases p <;> first | rfl | exact absurd (by decide) hp, ?_⟩
  exact .place f (.none _) (by simpa [State.ownRoom] using room)

theorem touches_offerReport (b : ReportBody) (s : State) : Touches reportParts s (offerReport b s) := by
  unfold offerReport
  split
  · split
    · next room =>
      exact ((touches_placeOwn _ s room).mono (by decide)).trans ((touches_modChecks _ _).mono (by decide))
    · exact (touches_modChecks _ _).mono (by decide)
  · exact .refl _ _

theorem touches_raiseCheck (o : CheckObject) (i : Option InstIx) (s : State) :
    Touches reportParts s (raiseCheck o i s) := by
  unfold raiseCheck
  have h1 : Touches reportParts s (s.modChecks (fun u => u.record
      { object := o, time := s.now, showTime := s.showTime, inst := i })) := (touches_modChecks _ _).mono (by decide)
  simp only
  split
  · split
    · exact (h1.trans (touches_offerReport _ _)).trans ((touches_modChecks _ _).mono (by decide))
    · exact h1.trans (touches_offerReport _ _)
  · exact h1

/-! ## Fades -/

theorem touches_fadeStart (l : LineIx) (k : SlotIx) (g : Target) (time : Nat) (s : State) :
    Touches [.fades] s (fadeStart l k g time s) := by
  unfold fadeStart
  exact .ite (touches_modFade _ _ _ _) (.refl _ _)

theorem touches_baseRequest (l : LineIx) (k : SlotIx) (s : State) : Touches [.fades] s (baseRequest l k s) :=
  touches_modFade _ _ _ _

theorem touches_freezeGroup (g : GroupIx) (s : State) : Touches [.fades] s (freezeGroup g s) :=
  .overList _ _ _ (fun _ _ => by unfold freezeMember; exact .ite (touches_modFade _ _ _ _) (.refl _ _))

theorem touches_resumeGroup (g : GroupIx) (s : State) : Touches [.fades] s (resumeGroup g s) :=
  .overList _ _ _ (fun _ _ => by unfold resumeMember; exact .ite (touches_modFade _ _ _ _) (.refl _ _))

theorem touches_groupFade (g : GroupIx) (x : Target) (time : Nat) (s : State) :
    Touches [.fades] s (groupFade g x time s) :=
  .overList _ _ _ (fun _ _ => touches_fadeStart _ _ _ _ _)

theorem touches_releaseGroup (g : GroupIx) (time : Nat) (s : State) : Touches [.fades] s (releaseGroup g time s) :=
  .overList _ _ _ (fun _ _ => by unfold releaseMember; exact .ite (.refl _ _) (touches_fadeStart _ _ _ _ _))

/-! ## Waits -/

/-- What completing a wait can touch. -/
abbrev waitParts : List Part := [.insts, .trunk, .checks]

theorem touches_passTo (i : InstIx) (n : Nat) (s : State) : Touches waitParts s (passTo i n s).1 := by
  unfold passTo
  split
  · exact (touches_modInst _ _ _).mono (by decide)
  · exact (touches_raiseCheck _ _ _).mono (by decide)

theorem touches_completeWait (i : InstIx) (s : State) : Touches waitParts s (completeWait i s).1 :=
  ((touches_modInst _ _ _).mono (by decide)).trans (touches_passTo _ _ _)

theorem touches_notify (on : WaitOn) (s : State) : Touches waitParts s (notify on s).1 :=
  .gather _ _ _ (fun i t => by
    split
    · exact touches_completeWait i t
    · exact .refl _ _)

/-! ## Narration -/

/-- What a flush can touch. -/
abbrev flushParts : List Part := [.zones, .pool, .trunk, .checks]

theorem touches_paceReport (z : ZoneIx) (b : Bool) (s : State) : Touches reportParts s (paceReport z b s) :=
  touches_offerReport _ _

theorem touches_paceGo (z : ZoneIx) (s : State) : Touches flushParts s (paceGo z s) := by
  unfold paceGo
  split
  · exact ((touches_modZone _ _ _).mono (by decide)).trans ((touches_paceReport _ _ _).mono (by decide))
  · exact .refl _ _

theorem touches_returnBlocks (z : ZoneIx) (n : Nat) (s : State) : Touches flushParts s (returnBlocks z n s) :=
  ((touches_modPool _ _).mono (by decide)).trans ((touches_modZone _ _ _).mono (by decide))

theorem touches_flush (z : ZoneIx) (c : ChunkClass) (s : State) : Touches flushParts s (flush z c s) := by
  unfold flush
  split
  · exact .refl _ _
  · exact (((touches_modZone _ _ _).mono (by decide)).trans (touches_returnBlocks _ _ _)).trans (touches_paceGo _ _)

/-- What a zone's change of clip state can touch. -/
abbrev clipParts : List Part := [.zones, .pool, .insts, .trunk, .checks]

theorem touches_setClipState (z : ZoneIx) (c : ClipState) (s : State) : Touches clipParts s (setClipState z c s).1 := by
  unfold setClipState
  simp only
  split
  · exact ((touches_modZone _ _ _).mono (by decide)).trans ((touches_notify _ _).mono (by decide))
  · exact (touches_modZone _ _ _).mono (by decide)

theorem touches_expectClip (z : ZoneIx) (c : Nat) (s : State) : Touches flushParts s (expectClip z c s) := by
  unfold expectClip
  refine Touches.trans (t := if (s.zones[z]).clipState = .none ∨ (s.zones[z]).clip ≠ c then flush z .scene s else s) ?_
    ((touches_modZone _ _ _).mono (by decide))
  exact .ite (touches_flush _ _ _) (.refl _ _)

theorem touches_zoneOwnerEnds (z : ZoneIx) (s : State) : Touches clipParts s (zoneOwnerEnds z s).1 :=
  ((touches_setClipState z .none s).trans ((touches_flush _ _ _).mono (by decide))).trans
    ((touches_modZone _ _ _).mono (by decide))

theorem touches_fadeBed (z : ZoneIx) (g : Target) (time : Nat) (s : State) :
    Touches [.fades] s (fadeBed z g time s) := by
  unfold fadeBed
  split
  · exact .ite (touches_fadeStart _ _ _ _ _) (.refl _ _)
  · exact .refl _ _

/-- What a zone's entry to DARK can touch. -/
abbrev darkParts : List Part := [.zones, .pool, .fades, .trunk, .checks]

theorem touches_zoneToDark (z : ZoneIx) (s : State) : Touches darkParts s (zoneToDark z s) := by
  have h1 : Touches darkParts s (flush z .ambient (flush z .scene (flush z .announce s))) :=
    (((touches_flush _ _ _).trans (touches_flush _ _ _)).trans (touches_flush _ _ _)).mono (by decide)
  unfold zoneToDark
  simp only
  split
  · exact (h1.trans ((touches_modZone _ _ _).mono (by decide))).trans ((touches_baseRequest _ _ _).mono (by decide))
  · exact h1.trans ((touches_modZone _ _ _).mono (by decide))

theorem touches_narrationBayChange (b : BayIx) (n : BayState) (s : State) :
    Touches darkParts s (narrationBayChange b n s) := by
  unfold narrationBayChange
  refine .ite (.overAll _ _ _ (fun z t => ?_)) (.refl _ _)
  exact .ite (touches_zoneToDark z t) (.refl _ _)

theorem touches_dropChunk (z : ZoneIx) (cls : Byte) (clip seq : Nat) (r : PoolReason) (s : State) :
    Touches flushParts s (dropChunk z cls clip seq r s) :=
  ((touches_modZone _ _ _).mono (by decide)).trans ((touches_raiseCheck _ _ _).mono (by decide))

theorem touches_storeChunk (z : ZoneIx) (c : Chunk) (s : State) : Touches flushParts s (storeChunk z c s) := by
  have h1 : Touches flushParts s ((s.modPool (fun p => { p with free := p.free - c.blocks })).modZone z (fun r =>
      { r.setQueue c.cls (r.queue c.cls ++ [c]) with usage := r.usage + c.blocks })) :=
    ((touches_modPool _ _).mono (by decide)).trans ((touches_modZone _ _ _).mono (by decide))
  unfold storeChunk
  simp only
  split
  · exact (h1.trans ((touches_modZone _ _ _).mono (by decide))).trans ((touches_paceReport _ _ _).mono (by decide))
  · exact h1

theorem touches_arriveChunk (p : List Byte) (s : State) : Touches flushParts s (arriveChunk p s) := by
  unfold arriveChunk
  simp only
  split
  · exact ((touches_modPool _ _).mono (by decide)).trans ((touches_raiseCheck _ _ _).mono (by decide))
  · split
    · exact touches_dropChunk _ _ _ _ _ _
    · split
      · exact .refl _ _
      · split
        · exact touches_dropChunk _ _ _ _ _ _
        · exact touches_storeChunk _ _ _

theorem touches_takeChunk (z : ZoneIx) (c : Chunk) (s : State) : Touches darkParts s (takeChunk z c s) := by
  have h1 : ∀ f, Touches darkParts s (s.modZone z f) := fun f => (touches_modZone _ _ _).mono (by decide)
  unfold takeChunk
  simp only
  split
  · exact h1 _
  · have h2 : Touches darkParts s (if c.cls = .scene then
        (s.modZone z (fun q => q.setQueue c.cls (q.queue c.cls).tail)).modZone z (fun q =>
          { q with clipState := .playing })
        else s.modZone z (fun q => q.setQueue c.cls (q.queue c.cls).tail)) :=
      .ite ((h1 _).trans (.mono (touches_modZone _ _ _) (by decide))) (h1 _)
    split
    · exact h2
    · exact (h2.trans (.mono (touches_modZone _ _ _) (by decide))).trans
        (.mono (touches_fadeBed _ _ _ _) (by decide))

theorem touches_judge (z : ZoneIx) (cand : Option Chunk) (ready : Bool) (w : Walk) :
    Touches darkParts w.s (judge z cand ready w).s := by
  unfold judge
  split
  · exact .refl _ _
  · split
    · exact touches_takeChunk _ _ _
    · exact .refl _ _

theorem touches_walk (l : List ZoneIx) (w : Walk) : Touches darkParts w.s (l.foldl judgeZone w).s := by
  induction l generalizing w with
  | nil => exact .refl _ _
  | cons z l ih => exact ((touches_judge _ _ _ _).trans (touches_judge _ _ _ _)).trans (ih (judgeZone w z))

theorem touches_fillWindow (l : LineIx) (s : State) :
    Touches [.zones, .pool, .fades, .lines, .trunk, .checks] s (fillWindow l s) := by
  have h1 := touches_walk (walkOrder s l)
    { s := s, left := (s.lines[l]).params.allowance, chosen := [], last := none }
  unfold fillWindow
  simp only
  split
  · exact ((h1.mono (by decide)).trans ((touches_modPool _ _).mono (by decide))).trans
      ((touches_modLine _ _ _).mono (by decide))
  · exact (h1.mono (by decide)).trans ((touches_modLine _ _ _).mono (by decide))

theorem touches_lastVoiceDone (z : ZoneIx) (s : State) : Touches darkParts s (lastVoiceDone z s) := by
  unfold lastVoiceDone
  exact .ite (((touches_modZone _ _ _).mono (by decide)).trans ((touches_fadeBed _ _ _ _).mono (by decide)))
    (.refl _ _)

/-- What a chunk's completion can touch. -/
abbrev completeParts : List Part := [.zones, .pool, .insts, .fades, .trunk, .checks]

theorem touches_completeChunk (at' : Time) (c : Carried) (s : State) :
    Touches completeParts s (completeChunk at' c s).1 := by
  have h1 : Touches completeParts s (paceGo c.zone (returnBlocks c.zone c.chunk.blocks s)) :=
    ((touches_returnBlocks _ _ _).trans (touches_paceGo _ _)).mono (by decide)
  have h2 : ∀ f, Touches completeParts s ((paceGo c.zone (returnBlocks c.zone c.chunk.blocks s)).modZone c.zone f) :=
    fun f => h1.trans ((touches_modZone _ _ _).mono (by decide))
  unfold completeChunk
  simp only
  split
  · exact h2 _
  · have h3 := fun (f : Zone → Zone) => (h2 f).trans (.mono (touches_setClipState c.zone .done _) (by decide))
    split <;> split
    · exact (h3 _).trans (.mono (touches_lastVoiceDone _ _) (by decide))
    · exact (h2 _).trans (.mono (touches_lastVoiceDone _ _) (by decide))
    · exact h3 _
    · exact h2 _

/-! ## Motion -/

/-- What stopping an axis can touch. -/
abbrev axisParts : List Part := [.axes, .insts, .trunk, .checks]

theorem touches_freezeAxis (a : AxisIx) (s : State) : Touches axisParts s (freezeAxis a s).1 := by
  unfold freezeAxis
  split
  · exact ((touches_modAxis _ _ _).mono (by decide)).trans ((touches_notify _ _).mono (by decide))
  · exact .refl _ _

theorem touches_motionBayChange (b : BayIx) (n : BayState) (s : State) :
    Touches axisParts s (motionBayChange b n s).1 := by
  unfold motionBayChange
  split
  · refine .gather _ _ _ (fun a t => ?_)
    split
    · exact touches_freezeAxis a t
    · exact .refl _ _
  · exact .refl _ _

theorem touches_syncAtStart (l : LineIx) (s : State) : Touches [.axes] s (syncAtStart l s) :=
  .overAll _ _ _ (fun _ _ => .ite (touches_modAxis _ _ _) (.refl _ _))

theorem touches_noteLastSent (l : LineIx) (s : State) : Touches [.axes] s (noteLastSent l s) := by
  refine .overAll _ _ _ (fun a t => ?_)
  simp only
  split
  · split
    · exact touches_modAxis _ _ _
    · exact .refl _ _
  · exact .refl _ _

theorem touches_refillLine (l : LineIx) (s : State) : Touches [.axes] s (refillLine l s) :=
  .overAll _ _ _ (fun _ _ => .ite (touches_modAxis _ _ _) (.refl _ _))

theorem touches_zeroMove (a : AxisIx) (s : State) : Touches axisParts s (zeroMove a s) := by
  unfold zeroMove
  split
  · exact ((touches_modAxis _ _ _).mono (by decide)).trans ((touches_notify _ _).mono (by decide))
  · exact (touches_modAxis _ _ _).mono (by decide)

theorem touches_meteredMove (a : AxisIx) (p q v : Nat) (s : State) : Touches [.axes] s (meteredMove a p q v s).1 := by
  unfold meteredMove
  simp only
  split <;> exact touches_modAxis _ _ _

theorem touches_moveRequest (a : AxisIx) (x v : Nat) (o : Origin) (s : State) :
    Touches axisParts s (moveRequest a x v o s).1 := by
  unfold moveRequest
  split
  · exact .refl _ _
  · simp only
    have h1 : ∀ f, Touches axisParts s (s.modAxis a f) := fun f => .mono (touches_modAxis _ _ _) (by decide)
    have h2 : ∀ t p q, Touches axisParts t (meteredMove a p q v t).1 :=
      fun t p q => .mono (touches_meteredMove _ _ _ _ _) (by decide)
    split <;> split
    · exact touches_zeroMove a s
    · exact h2 _ _ _
    · exact (h1 _).trans (touches_zeroMove a _)
    · exact (h1 _).trans (h2 _ _ _)

theorem touches_endDeadline (a : AxisIx) (s : State) : Touches axisParts s (endDeadline a s).1 := by
  unfold endDeadline
  simp only
  split
  · exact .mono (touches_modAxis _ _ _) (by decide)
  · exact .trans (.mono (touches_modAxis _ _ _) (by decide)) (.mono (touches_notify _ _) (by decide))

theorem touches_unsyncAxis (a : AxisIx) (s : State) : Touches axisParts s (unsyncAxis a s).1 := by
  unfold unsyncAxis
  simp only
  split
  · exact .trans (.mono (touches_modAxis _ _ _) (by decide)) (.mono (touches_notify _ _) (by decide))
  · exact .mono (touches_modAxis _ _ _) (by decide)

/-! ## Scene admission and cues -/

/-- What ending an instance, without a re-scan, can touch. -/
abbrev endParts : List Part := [.insts, .fades, .groups, .zones, .pool, .axes, .scenes, .trunk, .checks]

/-- What scene admission and the Cue Engine can touch. -/
abbrev sceneParts : List Part := [.insts, .fades, .groups, .zones, .pool, .axes, .scenes, .waitList, .trunk, .checks]

theorem touches_sceneReport (c : SceneIx) (i : Option InstIx) (o : Origin) (e : SceneEvent) (s : State) :
    Touches reportParts s (sceneReport c i o e s) :=
  touches_offerReport _ _

theorem touches_giveGroup (i : InstIx) (r : Nat) (g : GroupIx) (s : State) :
    Touches [.fades, .groups] s (giveGroup i r g s) := by
  unfold giveGroup
  exact .ite (.trans (.mono (touches_releaseGroup _ _ _) (by decide)) (.mono (touches_modGroup _ _ _) (by decide)))
    (.refl _ _)

theorem touches_giveZone (i : InstIx) (z : ZoneIx) (s : State) : Touches clipParts s (giveZone i z s) := by
  unfold giveZone
  exact .ite (touches_zoneOwnerEnds _ _) (.refl _ _)

theorem touches_giveAxis (i : InstIx) (a : AxisIx) (s : State) : Touches axisParts s (giveAxis i a s) := by
  unfold giveAxis
  exact .ite (.trans (touches_freezeAxis _ _) (.mono (touches_modAxis _ _ _) (by decide))) (.refl _ _)

theorem touches_endSteps (i : InstIx) (cause : EndCause) (pre : Option SceneIx) (s : State) :
    Touches endParts s (endSteps i cause pre s) := by
  have h0 : ∀ (f : Inst → Inst) t, Touches endParts t (t.modInst i f) :=
    fun f t => .mono (touches_modInst _ _ _) (by decide)
  have h1 : ∀ r (l : List GroupIx) t, Touches endParts t (overList l (giveGroup i r) t) :=
    fun r l t => .overList _ _ _ (fun g u => .mono (touches_giveGroup i r g u) (by decide))
  have h2 : ∀ (l : List ZoneIx) t, Touches endParts t (overList l (giveZone i) t) :=
    fun l t => .overList _ _ _ (fun z u => .mono (touches_giveZone i z u) (by decide))
  have h3 : ∀ (l : List AxisIx) t, Touches endParts t (overList l (giveAxis i) t) :=
    fun l t => .overList _ _ _ (fun a u => .mono (touches_giveAxis i a u) (by decide))
  have h4 : ∀ c (f : Scene → Scene) t, Touches endParts t (t.modScene c f) :=
    fun c f t => .mono (touches_modScene _ _ _) (by decide)
  unfold endSteps
  simp only
  split
  · exact .trans (.trans (.trans (.trans (.trans (.trans (h0 _ _) (h1 _ _ _)) (h2 _ _)) (h3 _ _)) (h0 _ _))
      (h4 _ _ _)) (.mono (touches_sceneReport _ _ _ _ _) (by decide))
  · exact .trans (.trans (.trans (.trans (.trans (h0 _ _) (h1 _ _ _)) (h2 _ _)) (h3 _ _)) (h0 _ _)) (h4 _ _ _)

/-- What an admission can touch. -/
abbrev admitParts : List Part := [.insts, .groups, .zones, .axes]

theorem touches_takeUp (i : InstIx) (s : State) : Touches [.insts] s (takeUp i s) := touches_modInst _ _ _

theorem touches_admit (i : InstIx) (c : SceneIx) (o : Origin) (s : State) : Touches admitParts s (admitScene i c o s) := by
  unfold admitScene
  refine .trans (.trans (.trans (.trans (.mono (touches_modInst _ _ _) (by decide))
    (.overList _ _ _ fun _ _ => .mono (touches_modGroup _ _ _) (by decide)))
    (.overList _ _ _ fun _ _ => .mono (touches_modZone _ _ _) (by decide)))
    (.overList _ _ _ fun _ _ => .mono (touches_modAxis _ _ _) (by decide)))
    (.mono (touches_takeUp _ _) (by decide))

theorem touches_rescanEntry (e : WaitEntry) (s : State) : Touches sceneParts s (rescanEntry e s) := by
  have h1 : ∀ i l, Touches sceneParts s (admitScene i e.scene e.origin (s.setWaitList l)) := fun i l =>
    .trans (.mono (touches_setWaitList _ _) (by decide)) (.mono (touches_admit _ _ _ _) (by decide))
  unfold rescanEntry
  simp only
  split
  · split
    · split
      · exact .trans (h1 _ _) (.mono (touches_sceneReport _ _ _ _ _) (by decide))
      · exact h1 _ _
    · exact .refl _ _
  · exact .refl _ _

theorem touches_rescan (s : State) : Touches sceneParts s (rescan s) :=
  .overList _ _ _ (fun e t => touches_rescanEntry e t)

theorem touches_removeEntry (e : WaitEntry) (r : RemoveReason) (s : State) :
    Touches [.waitList, .trunk, .checks] s (removeEntry e r s) :=
  .trans (.mono (touches_setWaitList _ _) (by decide)) (.mono (touches_sceneReport _ _ _ _ _) (by decide))

theorem touches_endInstance (i : InstIx) (c : EndCause) (s : State) : Touches sceneParts s (endInstance i c s) := by
  unfold endInstance
  exact .ite (.trans (.mono (touches_endSteps _ _ _ _) (by decide)) (touches_rescan _)) (.refl _ _)

theorem touches_endRunOff (r : State × List InstIx) : Touches sceneParts r.1 (endRunOff r) :=
  .overList _ _ _ (fun i t => touches_endInstance i .cue t)

theorem touches_restart (i : InstIx) (c : SceneIx) (o : Origin) (s : State) :
    Touches [.insts, .trunk, .checks] s (restart i c o s) :=
  .trans (.trans (.mono (touches_modInst _ _ _) (by decide)) (.mono (touches_takeUp _ _) (by decide)))
    (.mono (touches_sceneReport _ _ _ _ _) (by decide))

theorem touches_reportDecision (c : SceneIx) (o : Origin) (i : Option InstIx) (e : SceneEvent) (s : State) :
    Touches reportParts s (reportDecision c o i e s) := by
  unfold reportDecision
  exact .ite (touches_sceneReport _ _ _ _ _) (.refl _ _)

theorem touches_queueOrRefuse (c : SceneIx) (o : Origin) (b : Bool) (s : State) :
    Touches sceneParts s (queueOrRefuse c o b s).1 := by
  unfold queueOrRefuse
  simp only
  split
  · exact .mono (touches_reportDecision _ _ _ _ _) (by decide)
  · split
    · exact .trans (.mono (touches_setWaitList _ _) (by decide)) (.mono (touches_reportDecision _ _ _ _ _) (by decide))
    · exact .mono (touches_reportDecision _ _ _ _ _) (by decide)

theorem touches_admitRequest (c : SceneIx) (o : Origin) (s : State) : Touches sceneParts s (admitRequest c o s).1 := by
  unfold admitRequest
  split
  · exact .trans (.mono (touches_admit _ _ _ _) (by decide)) (.mono (touches_reportDecision _ _ _ _ _) (by decide))
  · exact touches_queueOrRefuse _ _ _ _

theorem touches_preempt (c : SceneIx) (o : Origin) (s : State) : Touches sceneParts s (preempt c o s).1 :=
  .trans (.trans (.overList _ _ _ fun _ _ => .mono (touches_endSteps _ _ _ _) (by decide)) (touches_admitRequest _ _ _))
    (touches_rescan _)

theorem touches_request (c : SceneIx) (o : Origin) (s : State) : Touches sceneParts s (request c o s).1 := by
  have h : ∀ i e, Touches sceneParts s (reportDecision c o i e s) :=
    fun i e => .mono (touches_reportDecision _ _ _ _ _) (by decide)
  unfold request
  simp only
  split
  · exact h _ _
  · split
    · exact h _ _
    · split
      · exact h _ _
      · split
        · split
          · exact .mono (touches_restart _ _ _ _) (by decide)
          · exact h _ _
        · split
          · exact h _ _
          · split
            · exact touches_admitRequest _ _ _
            · split
              · exact touches_preempt _ _ _
              · exact touches_queueOrRefuse _ _ _ _

theorem touches_stopRequest (c : SceneIx) (s : State) : Touches sceneParts s (stopRequest c s).1 := by
  unfold stopRequest
  split
  · exact touches_endInstance _ _ _
  · split
    · exact .mono (touches_removeEntry _ _ _) (by decide)
    · exact .refl _ _

theorem touches_admissionBayChange (b : BayIx) (n : BayState) (s : State) :
    Touches sceneParts s (admissionBayChange b n s) := by
  have h1 : ∀ t, Touches sceneParts t (Machine.overAll 12 (fun i u =>
      if (u.insts[i]).busy = true ∧ (u.sceneOf i).bay = b ∧ endsIn n u.insts[i] (u.sceneOf i).flags = true then
        endSteps i .bay none u
      else u) t) :=
    fun t => .overAll _ _ _ fun i u => .ite (.mono (touches_endSteps _ _ _ _) (by decide)) (.refl _ _)
  unfold admissionBayChange
  simp only
  split
  · exact .trans (.trans (.overList _ _ _ fun _ _ => .mono (touches_removeEntry _ _ _) (by decide)) (h1 _))
      (touches_rescan _)
  · exact .trans (h1 _) (touches_rescan _)

theorem touches_startWait (i : InstIx) (on : WaitOn) (n : Nat) (a : TimeoutAction) (s : State) :
    Touches [.insts] s (startWait i on n a s).1 := by
  unfold startWait
  split
  · exact .refl _ _
  · exact touches_modInst _ _ _

theorem touches_executeCue (i : InstIx) (k : CueKind) (s : State) : Touches sceneParts s (executeCue i k s).1 := by
  cases k with
  | light => exact .mono (touches_groupFade _ _ _ _) (by decide)
  | voice => exact .mono (touches_expectClip _ _ _) (by decide)
  | move a target speed =>
    simp only [executeCue]
    split
    · exact .trans (.mono (touches_moveRequest _ _ _ _ _) (by decide))
        (.mono (touches_sceneReport _ _ _ _ _) (by decide))
    · exact .mono (touches_moveRequest _ _ _ _ _) (by decide)
  | waitTrigger => exact .mono (touches_startWait _ _ _ _ _) (by decide)
  | waitMotion => exact .mono (touches_startWait _ _ _ _ _) (by decide)
  | waitClip => exact .mono (touches_startWait _ _ _ _ _) (by decide)
  | jump => exact .mono (touches_modInst _ _ _) (by decide)
  | endScene => exact touches_endInstance _ _ _
  | unknown => exact .refl _ _

theorem touches_invalidCue (i : InstIx) (n : Nat) (x : CueTest) (s : State) :
    Touches sceneParts s (invalidCue i n x s) :=
  .trans (.mono (touches_raiseCheck _ _ _) (by decide)) (touches_endInstance _ _ _)

theorem touches_runCues (i : InstIx) (n : Nat) (s : State) : Touches sceneParts s (runCues i n s) := by
  have h : ∀ f t, Touches sceneParts t (t.modInst i f) := fun f t => .mono (touches_modInst _ _ _) (by decide)
  induction n generalizing s with
  | zero => exact h _ _
  | succ n ih =>
    have he := touches_executeCue i (s.cues[(s.insts[i]).cue]).kind s
    unfold runCues
    simp only
    split
    · exact touches_invalidCue _ _ _ _
    · split
      · exact he
      · exact he
      · split
        · exact he.trans (touches_invalidCue _ _ _ _)
        · split
          · exact (he.trans (h _ _)).trans (ih _)
          · exact (he.trans (h _ _)).trans (h _ _)

theorem touches_dueEvent (i : InstIx) (s : State) : Touches sceneParts s (dueEvent i s) :=
  .trans (.mono (touches_modInst _ _ _) (by decide)) (touches_runCues _ _ _)

theorem touches_waitTimeout (i : InstIx) (w : Wait) (s : State) : Touches sceneParts s (waitTimeout i w s) := by
  have h : ∀ t, Touches sceneParts t (endRunOff (completeWait i t)) :=
    fun t => .trans (.mono (touches_completeWait _ _) (by decide)) (touches_endRunOff _)
  unfold waitTimeout
  split
  · exact touches_endInstance _ _ _
  · simp only
    split
    · exact .trans (.mono (touches_sceneReport _ _ _ _ _) (by decide)) (h _)
    · exact h _

/-- What a suspension or a resume can touch. -/
abbrev holdParts : List Part := [.insts, .fades, .axes, .trunk, .checks]

theorem touches_suspend (i : InstIx) (s : State) : Touches holdParts s (suspend i s) := by
  have h : ∀ f (l : List GroupIx) (m : State → List AxisIx), Touches holdParts s
      (Machine.overList (m (Machine.overList l freezeGroup (s.modInst i f))) (fun a t => (freezeAxis a t).1)
        (Machine.overList l freezeGroup (s.modInst i f))) := fun f l m =>
    .trans (.trans (.mono (touches_modInst _ _ _) (by decide))
      (.overList _ _ _ fun _ _ => .mono (touches_freezeGroup _ _) (by decide)))
      (.overList _ _ _ fun _ _ => .mono (touches_freezeAxis _ _) (by decide))
  unfold suspend
  simp only
  split
  · exact .trans (h _ _ fun t => (s.sceneOf i).axes.filter (fun a => (t.axes[a]).owner == some i))
      (.mono (touches_sceneReport _ _ _ _ _) (by decide))
  · exact h _ _ fun t => (s.sceneOf i).axes.filter (fun a => (t.axes[a]).owner == some i)

theorem touches_resume (i : InstIx) (s : State) : Touches holdParts s (resume i s).1 := by
  have h : ∀ f (l : List GroupIx), Touches holdParts s (Machine.overList l resumeGroup (s.modInst i f)) := fun f l =>
    .trans (.mono (touches_modInst _ _ _) (by decide))
      (.overList _ _ _ fun _ _ => .mono (touches_resumeGroup _ _) (by decide))
  have hc : ∀ t, Touches holdParts t (completeWait i t).1 := fun t => .mono (touches_completeWait _ _) (by decide)
  have hr : ∀ c j o e t, Touches holdParts t (sceneReport c j o e t) :=
    fun c j o e t => .mono (touches_sceneReport _ _ _ _ _) (by decide)
  unfold resume
  simp only
  split <;> split
  · exact ((h _ _).trans (hc _)).trans (hr _ _ _ _ _)
  · exact (h _ _).trans (hr _ _ _ _ _)
  · exact (h _ _).trans (hc _)
  · exact h _ _

theorem touches_cueBayChange (b : BayIx) (old new : BayState) (s : State) :
    Touches holdParts s (cueBayChange b old new s).1 := by
  refine .gather _ _ _ (fun i t => ?_)
  simp only
  split
  · exact .refl _ _
  · split
    · exact touches_suspend _ _
    · split
      · exact touches_resume _ _
      · exact .refl _ _

/-! ## Bays -/

/-- What a change of a bay's state can touch. -/
abbrev bayParts : List Part :=
  [.bays, .choices, .insts, .fades, .groups, .zones, .pool, .axes, .scenes, .waitList, .trunk, .checks]

theorem touches_dueIfReached (i : InstIx) (s : State) : Touches sceneParts s (dueIfReached i s) := by
  unfold dueIfReached
  exact .ite (touches_dueEvent _ _) (.refl _ _)

theorem touches_motionTakes (b : BayIx) (n : BayState) (e : Bool) (s : State) :
    Touches sceneParts s (motionTakes b n e s) := by
  have h : Touches sceneParts s (endRunOff (motionBayChange b n s)) :=
    .trans (.mono (touches_motionBayChange _ _ _) (by decide)) (touches_endRunOff _)
  unfold motionTakes
  simp only
  split
  · exact .trans h (.overList _ _ _ fun i t => touches_dueIfReached i t)
  · exact h

theorem touches_take (b : BayIx) (old new : BayState) (e : Bool) (k : Taker) (s : State) :
    Touches sceneParts s (k.take b old new e s) := by
  cases k with
  | admission => exact touches_admissionBayChange _ _ _
  | cues => exact .trans (.mono (touches_cueBayChange _ _ _ _) (by decide)) (touches_endRunOff _)
  | narration => exact .mono (touches_narrationBayChange _ _ _) (by decide)
  | motion => exact touches_motionTakes _ _ _ _

/-- What handing over a bay change can touch: the bay records are not among it. -/
abbrev handParts : List Part :=
  [.choices, .insts, .fades, .groups, .zones, .pool, .axes, .scenes, .waitList, .trunk, .checks]

theorem touches_handOver (b : BayIx) (old new : BayState) (s : State) : Touches handParts s (handOver b old new s) := by
  have h : ∀ l e t, Touches handParts t (Machine.overList l (Taker.take b old new e) t) := fun l e t =>
    .overList _ _ _ fun k u => .mono (touches_take _ _ _ _ _ _) (by decide)
  unfold handOver
  simp only
  split
  · exact h _ _ _
  · exact .trans (.mono (touches_choose _) (by decide)) (h _ _ _)

theorem touches_attractRequest (b : BayIx) (n : BayState) (s : State) : Touches sceneParts s (attractRequest b n s) := by
  unfold attractRequest
  split
  · exact touches_request _ _ _
  · exact .refl _ _

theorem touches_enterState (b : BayIx) (n : BayState) (c : BayCause) (s : State) :
    Touches bayParts s (enterState b n c s) :=
  .trans (.trans (.trans (.mono (touches_modBay _ _ _) (by decide)) (.mono (touches_handOver _ _ _ _) (by decide)))
    (.mono (touches_attractRequest _ _ _) (by decide))) (.mono (touches_offerReport _ _) (by decide))

theorem touches_modBay_enter (b : BayIx) (f : Bay → Bay) (n : BayState) (c : BayCause) (s : State) :
    Touches bayParts s (enterState b n c (s.modBay b f)) :=
  .trans (.mono (touches_modBay _ _ _) (by decide)) (touches_enterState _ _ _ _)

theorem touches_modBay_bayParts (b : BayIx) (f : Bay → Bay) (s : State) : Touches bayParts s (s.modBay b f) :=
  .mono (touches_modBay _ _ _) (by decide)

theorem touches_enterBay (b : BayIx) (s : State) : Touches bayParts s (enterBay b s) := by
  unfold enterBay
  simp only
  exact .ite (touches_modBay_bayParts _ _ _) (.ite (touches_modBay_enter _ _ _ _ _) (touches_modBay_bayParts _ _ _))

theorem touches_leaveBay (b : BayIx) (s : State) : Touches bayParts s (leaveBay b s) := by
  unfold leaveBay
  simp only
  exact .ite (touches_modBay_bayParts _ _ _) (touches_modBay_bayParts _ _ _)

theorem touches_lingerExpires (b : BayIx) (s : State) : Touches bayParts s (lingerExpires b s) := by
  unfold lingerExpires
  simp only
  exact .ite (touches_modBay_enter _ _ _ _ _) (touches_modBay_bayParts _ _ _)

theorem touches_intrusionNotice (e : TrigIx) (b : BayIx) (a : Bool) (s : State) :
    Touches bayParts s (intrusionNotice e b a s) := by
  unfold intrusionNotice
  simp only
  exact .ite (touches_modBay_enter _ _ _ _ _) (touches_modBay_bayParts _ _ _)

theorem touches_exitTest (b : BayIx) (c : BayCause) (s : State) : Touches bayParts s (exitTest b c s) := by
  unfold exitTest
  simp only
  exact .ite (.refl _ _) (touches_enterState _ _ _ _)

theorem touches_holdReleaseExpires (b : BayIx) (s : State) : Touches bayParts s (holdReleaseExpires b s) := by
  unfold holdReleaseExpires
  simp only
  exact .ite (.trans (touches_modBay_bayParts _ _ _) (touches_exitTest _ _ _)) (touches_modBay_bayParts _ _ _)

theorem touches_faultNotice (b : BayIx) (h : Bool) (s : State) : Touches bayParts s (faultNotice b h s) := by
  unfold faultNotice
  simp only
  split
  · exact touches_modBay_enter _ _ _ _ _
  · exact touches_modBay_enter _ _ _ _ _
  · exact touches_modBay_bayParts _ _ _
  all_goals exact .refl _ _

theorem touches_openBay (b : BayIx) (s : State) : Touches bayParts s (openBay b s) := by
  unfold openBay
  split
  · exact touches_enterState _ _ _ _
  · exact touches_enterState _ _ _ _
  all_goals exact .refl _ _

theorem touches_closeBay (b : BayIx) (s : State) : Touches bayParts s (closeBay b s) := by
  unfold closeBay
  simp only
  exact .ite (touches_modBay_bayParts _ _ _) (touches_modBay_enter _ _ _ _ _)

theorem touches_holdBay (b : BayIx) (s : State) : Touches bayParts s (holdBay b s) := by
  unfold holdBay
  simp only
  exact .ite (touches_modBay_enter _ _ _ _ _) (touches_modBay_bayParts _ _ _)

theorem touches_releaseBay (b : BayIx) (s : State) : Touches bayParts s (releaseBay b s) := by
  unfold releaseBay
  exact .ite (.trans (touches_modBay_bayParts _ _ _) (touches_exitTest _ _ _)) (.refl _ _)

theorem touches_serviceBay (b : BayIx) (s : State) : Touches bayParts s (serviceBay b s) := by
  unfold serviceBay
  simp only
  exact .ite (touches_modBay_bayParts _ _ _) (touches_modBay_enter _ _ _ _ _)

theorem touches_faultStop (a : AxisIx) (s : State) : Touches bayParts s (faultStop a s) := by
  have h1 : Touches bayParts s (s.modAxis a (fun y => y.fault s.now)) := .mono (touches_modAxis _ _ _) (by decide)
  unfold faultStop
  exact .ite ((h1.trans (.mono (touches_notify _ _) (by decide))).trans (.mono (touches_endRunOff _) (by decide))) h1

theorem touches_faultEnd (o : Option InstIx) (s : State) : Touches bayParts s (faultEnd o s) := by
  cases o with
  | none => exact .refl _ _
  | some i => exact .mono (touches_endInstance _ _ _) (by decide)

theorem touches_faultRaise (a : AxisIx) (c : AxisCause) (s : State) : Touches bayParts s (faultRaise a c s) :=
  .trans (.mono (touches_raiseCheck _ _ _) (by decide)) (touches_faultEnd _ _)

theorem touches_axisFault (a : AxisIx) (c : AxisCause) (s : State) : Touches bayParts s (axisFault a c s) :=
  ((touches_faultStop a s).trans (touches_faultRaise a c _)).trans (touches_faultNotice _ _ _)

/-! ## Triggers -/

/-- What a handled input can touch. -/
abbrev inputParts : List Part :=
  [.triggers, .bays, .choices, .insts, .fades, .groups, .zones, .pool, .axes, .scenes, .waitList, .trunk, .checks]

theorem touches_reporting (b : Bool) (f g : State → State) (s : State) (hf : ∀ t, Touches inputParts t (f t))
    (hg : ∀ t, Touches inputParts t (g t)) : Touches inputParts s (reporting b f g s) := by
  unfold reporting
  exact .ite (.eitherOrder s (by decide) hf hg) (hg s)

theorem touches_entryReport (e : TrigIx) (r : TrigEntry) (g : Option Edge) (o : TrigOutcome) (s : State) :
    Touches inputParts s (entryReport e r g o s) :=
  .mono (touches_offerReport _ _) (by decide)

theorem touches_evaluate (e : TrigIx) (s : State) : Touches inputParts s (evaluate e s) := by
  unfold evaluate
  simp only
  split
  · split
    · exact .refl _ _
    · exact .trans (.mono (touches_modTrig _ _ _) (by decide))
        (touches_reporting _ _ _ _ (fun t => touches_entryReport _ _ _ _ t)
          (fun t => .mono (touches_intrusionNotice _ _ _ t) (by decide)))
  all_goals exact .refl _ _

theorem touches_evaluateSlot (l : LineIx) (k : SlotIx) (s : State) : Touches inputParts s (evaluateSlot l k s) :=
  .overAll _ _ _ fun e t => .ite (touches_evaluate e t) (.refl _ _)

theorem touches_evaluateNode (l : LineIx) (n : NodeIx) (s : State) : Touches inputParts s (evaluateNode l n s) :=
  .overAll _ _ _ fun e t => .ite (touches_evaluate e t) (.refl _ _)

theorem touches_pressAction (e : TrigIx) (r : TrigEntry) (g : Edge) (s : State) :
    Touches inputParts s (pressAction e r g s) := by
  unfold pressAction
  split
  · exact touches_reporting _ _ _ _ (fun t => touches_entryReport _ _ _ _ t)
      (fun t => .mono (touches_request _ _ t) (by decide))
  · exact touches_reporting _ _ _ _ (fun t => touches_entryReport _ _ _ _ t)
      (fun t => .mono (touches_stopRequest _ t) (by decide))
  all_goals exact .ite (touches_entryReport _ _ _ _ _) (.refl _ _)

theorem touches_acceptedPress (e : TrigIx) (r : TrigEntry) (g : Edge) (s : State) :
    Touches inputParts s (acceptedPress e r g s) := by
  unfold acceptedPress
  simp only
  split
  · exact touches_pressAction _ _ _ _
  · exact touches_reporting _ _ _ _ (fun t => touches_entryReport _ _ _ _ t)
      (fun t => .trans (.mono (touches_notify _ t) (by decide)) (.mono (touches_endRunOff _) (by decide)))

theorem touches_press (e : TrigIx) (b : BayIx) (g : Edge) (s : State) : Touches inputParts s (press e b g s) := by
  unfold press
  simp only
  refine .ite (.mono (touches_modBay _ _ _) (by decide)) (.ite (.mono (touches_modTrig _ _ _) (by decide)) ?_)
  exact .trans (.mono (touches_modTrig _ _ _) (by decide)) (touches_acceptedPress _ _ _ _)

theorem touches_handleEdge (l : LineIx) (k : SlotIx) (b : BitIx) (g : Edge) (s : State) :
    Touches inputParts s (handleEdge l k b g s) := by
  unfold handleEdge
  split
  · exact .ite (.mono (touches_offerReport _ _) (by decide)) (.refl _ _)
  · simp only
    split
    · exact .refl _ _
    · exact .refl _ _
    · exact .ite (touches_reporting _ _ _ _ (fun t => touches_entryReport _ _ _ _ t)
        (fun t => .mono (touches_enterBay _ t) (by decide))) (.refl _ _)
    · exact .ite (touches_reporting _ _ _ _ (fun t => touches_entryReport _ _ _ _ t)
        (fun t => .mono (touches_leaveBay _ t) (by decide))) (.refl _ _)
    all_goals exact .ite (touches_press _ _ _ _) (.refl _ _)

theorem touches_handleItem (l : LineIx) (k : SlotIx) (old : Option (BitVec 16)) (new : BitVec 16) (s : State) :
    Touches inputParts s (handleItem l k old new s) := by
  unfold handleItem
  simp only
  split
  · exact touches_evaluateSlot _ _ _
  · refine .trans (.overAll _ _ _ fun b t => ?_) (touches_evaluateSlot _ _ _)
    split
    · exact touches_handleEdge _ _ _ _ _
    · exact .refl _ _

theorem touches_leaveIntrusion (e : TrigIx) (r : TrigEntry) (s : State) :
    Touches inputParts s (leaveIntrusion e r s) := by
  unfold leaveIntrusion
  split
  · exact touches_reporting _ _ _ _ (fun t => touches_entryReport _ _ _ _ t)
      (fun t => .mono (touches_intrusionNotice _ _ _ t) (by decide))
  all_goals exact .refl _ _

theorem touches_writeTrigger (e : TrigIx) (r : TrigEntry) (s : State) : Touches inputParts s (writeTrigger e r s) := by
  have h : ∀ f, Touches inputParts s (s.modTrig e f) := fun f => .mono (touches_modTrig _ _ _) (by decide)
  unfold writeTrigger
  simp only
  split
  · exact ((h _).trans (touches_leaveIntrusion _ _ _)).trans (touches_evaluate _ _)
  · exact (h _).trans (touches_evaluate _ _)

/-! ## Lines -/

/-- What the events of a line can touch, its frame start's take-up of curves apart. -/
abbrev lineParts : List Part :=
  [.lines, .triggers, .bays, .choices, .insts, .fades, .groups, .zones, .pool, .axes, .scenes, .waitList, .trunk, .checks]

theorem touches_closeWindow (l : LineIx) (k : SlotIx) (w : Option (BitVec 17)) (s : State) :
    Touches [.lines, .trunk, .checks] s (closeWindow l k w s) := by
  have h : ∀ f t, Touches [.lines, .trunk, .checks] t (t.modLine l f) := fun f t => .mono (touches_modLine _ _ _) (by decide)
  unfold closeWindow
  simp only
  split
  · exact h _ _
  · split
    · exact h _ _
    · exact ((h _ _).trans (h _ _)).trans (.mono (touches_raiseCheck _ _ _) (by decide))

theorem touches_triggerWord (l : LineIx) (k : SlotIx) (w : BitVec 16) (s : State) :
    Touches lineParts s (triggerWord l k w s) :=
  .trans (.mono (touches_modLine _ _ _) (by decide)) (.mono (touches_handleItem _ _ _ _ _) (by decide))

theorem touches_followingCheck (l : LineIx) (a : AxisIx) (n : Nat) (s : State) :
    Touches bayParts s (followingCheck l a n s) := by
  have h : ∀ f, Touches bayParts s (s.modAxis a f) := fun f => .mono (touches_modAxis _ _ _) (by decide)
  unfold followingCheck
  split
  · exact .refl _ _
  · simp only
    exact .ite (.ite ((h _).trans (touches_axisFault _ _ _)) (h _)) (h _)

theorem touches_positionWord (l : LineIx) (k : SlotIx) (w : BitVec 16) (s : State) :
    Touches bayParts s (positionWord l k w s) := by
  unfold positionWord
  simp only
  split
  · split
    · exact .mono (touches_modAxis _ _ _) (by decide)
    · exact touches_followingCheck _ _ _ _
    · exact touches_followingCheck _ _ _ _
    · exact .refl _ _
  · exact .refl _ _

theorem touches_acts (l : List (State → State)) (s : State) (h : ∀ f ∈ l, ∀ t, Touches lineParts t (f t)) :
    Touches lineParts s (l.foldl (fun t f => f t) s) := by
  induction l generalizing s with
  | nil => exact .refl _ _
  | cons f l ih =>
    exact (h f (by simp) s).trans (ih (f s) (fun g hg => h g (by simp [hg])))

theorem touches_interleave (n : Nat) (fs gs : List (State → State)) (s : State)
    (hf : ∀ f ∈ fs, ∀ t, Touches lineParts t (f t)) (hg : ∀ g ∈ gs, ∀ t, Touches lineParts t (g t)) :
    Touches lineParts s (interleave n fs gs s) := by
  have base : ∀ t, Touches lineParts t ((fs ++ gs).foldl (fun t f => f t) t) := fun t =>
    touches_acts _ _ (fun f m => (List.mem_append.mp m).elim (hf f) (hg f))
  induction n generalizing fs gs s with
  | zero => unfold interleave; exact base s
  | succ n ih =>
    match fs, gs with
    | [], gs => unfold interleave; exact base s
    | f :: fs, [] => unfold interleave; exact base s
    | f :: fs, g :: gs =>
      have hc : Touches lineParts s s.choose := .mono (touches_choose s) (by decide)
      have hf' : ∀ x ∈ fs, ∀ t, Touches lineParts t (x t) := fun x m => hf x (by simp [m])
      have hg' : ∀ x ∈ gs, ∀ t, Touches lineParts t (x t) := fun x m => hg x (by simp [m])
      unfold interleave
      split
      · exact (hc.trans (hf f (by simp) _)).trans (ih _ _ _ hf' hg (fun t =>
          touches_acts _ _ (fun x m => (List.mem_append.mp m).elim (hf' x) (hg x))))
      · exact (hc.trans (hg g (by simp) _)).trans (ih _ _ _ hf hg' (fun t =>
          touches_acts _ _ (fun x m => (List.mem_append.mp m).elim (hf x) (hg' x))))

theorem touches_replyWords (l : LineIx) (s : State) : Touches lineParts s (replyWords l s) := by
  refine touches_interleave _ _ _ _ (fun f m t => ?_) (fun f m t => ?_)
  · obtain ⟨k, -, hk⟩ := List.mem_filterMap.mp m
    split at hk
    · split at hk
      · rw [← Option.some.inj hk]; exact touches_triggerWord _ _ _ _
      · cases hk
    all_goals cases hk
  · obtain ⟨k, -, hk⟩ := List.mem_filterMap.mp m
    split at hk
    · split at hk
      · rw [← Option.some.inj hk]; exact .mono (touches_positionWord _ _ _ _) (by decide)
      · cases hk
    all_goals cases hk

theorem touches_feedbackLost (l : List AxisIx) (s : State) : Touches bayParts s (feedbackLost l s) := by
  refine .overList _ _ _ fun a t => ?_
  split
  · exact touches_axisFault _ _ _
  · exact touches_axisFault _ _ _
  all_goals exact .refl _ _

theorem touches_announce (l : LineIx) (n : NodeIx) (p : Presence) (s : State) :
    Touches inputParts s (announce l n p s) := by
  unfold announce
  simp only
  exact .ite (touches_evaluateNode _ _ _) (.eitherOrder _ (by decide) (fun t => touches_evaluateNode _ _ t)
    (fun t => .mono (touches_feedbackLost _ t) (by decide)))

theorem touches_settleNode (l : LineIx) (n : NodeIx) (s : State) : Touches lineParts s (settleNode l n s) := by
  have h : ∀ f, Touches lineParts s (s.modLine l f) := fun f => .mono (touches_modLine _ _ _) (by decide)
  have ha : ∀ p t, Touches lineParts t (announce l n p t) := fun p t => .mono (touches_announce _ _ _ _) (by decide)
  unfold settleNode
  simp only
  split
  · exact h _
  · split
    · exact ((h _).trans (.mono (touches_raiseCheck _ _ _) (by decide))).trans (ha _ _)
    · exact (h _).trans (ha _ _)

theorem touches_completeWindow (l : LineIx) (at' : Time) (s : State) :
    Touches lineParts s (completeWindow l at' s) :=
  .trans (.mono (touches_modLine _ _ _) (by decide)) (.overList _ _ _ fun _ _ =>
    .trans (.mono (touches_completeChunk _ _ _) (by decide)) (.mono (touches_endRunOff _) (by decide)))

theorem touches_stopLine (l : LineIx) (s : State) : Touches lineParts s (stopLine l s) :=
  .trans (.mono (touches_modLine _ _ _) (by decide)) (.overList _ _ _ fun _ _ =>
    .mono (touches_announce _ _ _ _) (by decide))

theorem touches_endFrame (l : LineIx) (at' : Time) (s : State) : Touches lineParts s (endFrame l at' s) := by
  unfold endFrame
  exact .ite (touches_stopLine _ _) (.mono (touches_modLine _ _ _) (by decide))

theorem touches_frameEnd (l : LineIx) (at' : Time) (s : State) : Touches lineParts s (frameEnd l at' s) :=
  .trans (.trans (.trans (.trans (.mono (touches_refillLine _ _) (by decide)) (touches_replyWords _ _))
    (.overAll _ _ _ fun n t => touches_settleNode l n t)) (touches_completeWindow _ _ _)) (touches_endFrame _ _ _)

theorem touches_lineOn (l : LineIx) (s : State) : Touches [.lines] s (lineOn l s) := touches_modLine _ _ _

theorem touches_lineOff (l : LineIx) (s : State) : Touches lineParts s (lineOff l s) := by
  unfold lineOff
  simp only
  exact .ite (.refl _ _) (.ite (.mono (touches_modLine _ _ _) (by decide)) (touches_stopLine _ _))

/-- What a frame start can touch. -/
abbrev frameParts : List Part := .curvesInForce :: lineParts

theorem touches_takeUpLoads (l : LineIx) (s : State) : Touches frameParts s (takeUpLoads l s) := by
  have h1 : ∀ f, Touches frameParts s (s.modLine l f) := fun f => .mono (touches_modLine _ _ _) (by decide)
  have h2 : ∀ t v, Touches frameParts t { t with curvesInForce := v } := fun t v =>
    .of_same (fun p hp => by cases p <;> first | rfl | exact absurd (by decide) hp) rfl
  unfold takeUpLoads
  simp only
  exact (((h1 _).trans (h2 _ _)).trans (.overList _ _ _ fun k t => .mono (touches_baseRequest l k t) (by decide))).trans
    (.overList _ _ _ fun k t => .mono (touches_evaluateSlot l k t) (by decide))

theorem touches_fixContents (l : LineIx) (s : State) : Touches [.lines] s (fixContents l s) := touches_modLine _ _ _

theorem touches_frameContents (l : LineIx) (s : State) : Touches frameParts s (frameContents l s) :=
  (Touches.mono (touches_fixContents _ _) (by decide)).trans
    ((Touches.mono (touches_noteLastSent _ _) (by decide)).trans (.mono (touches_fillWindow _ _) (by decide)))

theorem touches_frameStart (l : LineIx) (s : State) : Touches frameParts s (frameStart l s) :=
  (((Touches.mono (touches_modLine _ _ _) (by decide)).trans (touches_takeUpLoads _ _)).trans
    (.mono (touches_syncAtStart _ _) (by decide))).trans (touches_frameContents _ _)

/-! ## Zones written by a LOAD -/

theorem touches_fadeSlot (m : Option (LineIx × SlotIx)) (g : Target) (time : Nat) (s : State) :
    Touches [.fades] s (fadeSlot m g time s) := by
  unfold fadeSlot
  split
  · exact touches_fadeStart _ _ _ _ _
  · exact .refl _ _

theorem touches_moveBed (m : Option (LineIx × SlotIx)) (z : ZoneLoad) (s : State) :
    Touches [.fades] s (moveBed m z s) :=
  (touches_fadeSlot _ _ _ _).trans (touches_fadeSlot _ _ _ _)

theorem touches_writeZone (z : ZoneIx) (x : ZoneLoad) (s : State) :
    Touches [.zones, .pool, .fades, .trunk, .checks, .choices] s (writeZone z x s) := by
  have h1 : ∀ f, Touches [.zones, .pool, .fades, .trunk, .checks, .choices] s (s.modZone z f) :=
    fun f => .mono (touches_modZone _ _ _) (by decide)
  have h2 : ∀ t, Touches [.zones, .pool, .fades, .trunk, .checks, .choices] t (zoneToDark z t) :=
    fun t => .mono (touches_zoneToDark _ _) (by decide)
  have h3 : ∀ m t, Touches [.zones, .pool, .fades, .trunk, .checks, .choices] t (moveBed m x t) :=
    fun m t => .mono (touches_moveBed _ _ _) (by decide)
  unfold writeZone
  simp only
  split
  · exact (h1 _).trans (.eitherOrder _ (by decide) h2 (h3 _))
  · exact (h1 _).trans (h2 _)
  · exact (h1 _).trans (h3 _ _)
  · exact h1 _

end Sys2Proof.Machine
end

