-- ==== Sys2Proof/Laws/Commands.lean ====
section
/-! SUPPORT. What the shared shapes of the rows do, said once: a command row whose command is at the head, a LOAD of one
entry, an arriving good frame, the relaying of a frame, a bay's change of state, and a notice to the Cue Engine. -/

namespace Sys2Proof.Machine

/-! ## Numbers in bytes -/

/-- A number below 65,536 is read back from its two bytes. -/
theorem be2_toBytes2 (k : Nat) (h : k < 65536) : be2 (BitVec.ofNat 8 (k / 256)) (BitVec.ofNat 8 k) = k := by
  simp [be2]
  omega

/-- An index below 256 is read back from its byte. -/
theorem index?_byte {n : Nat} (k : Fin n) (h : n ≤ 256) : index? n (byte k.val).toNat = some k := by
  have hk := k.isLt
  have hb : (byte k.val).toNat = k.val := by simp [byte]; omega
  simp [index?, hb]

/-! ## Commands at the head -/

/-- A command at the head runs, and then its answer is offered (R10). -/
theorem commandRow_atHead {tag code : Byte} {ops : List Byte} {run : State → State × Reply} {s : State}
    (h : atHead { tag := tag, code := code, ops := ops } s = true) :
    commandRow tag code ops run s = .next (replied tag code (run s).2 (run s).1) := by
  simp only [commandRow, execute, h, if_true, replied]

/-- A command with one index operand in its range runs on that index (R11). -/
theorem oneIndex_byte {n : Nat} (k : Fin n) (h : n ≤ 256) (run : Fin n → State → State × Reply) (s : State) :
    oneIndex n [byte k.val] run s = run k s := by
  simp only [oneIndex, index?_byte k h]

/-- A LOAD row whose table byte names it runs as a command row. -/
theorem loadRow_atHead {row : Instr} {tag : Byte} {ops : List Byte} {run : State → State × Reply} {s : State}
    (h : loadInstr tag ops = row) (k : atHead { tag := tag, code := 0x01, ops := ops } s = true) :
    loadRow row tag ops run s = .next (replied tag 0x01 (run s).2 (run s).1) := by
  rw [loadRow, if_pos h, commandRow_atHead k]

/-- The header of a LOAD of one entry. -/
theorem parseHeader_loadOne (t l : Byte) (k : Nat) (e : List Byte) (h : k < 65536) :
    parseHeader (loadOne t l k e) = some { table := t, line := l, first := k, count := 1, rest := e } := by
  have h2 : be2 0#8 1#8 = 1 := by decide
  simp [loadOne, toBytes2, parseHeader, h2, be2_toBytes2 k h]

/-- A LOAD of one entry that its table can represent: written and answered OK, or skipped and named (R13, R14). -/
theorem loadTable_loadOne {α : Type} {n : Nat} (size : Nat) (parse : List Byte → Option α) (put : Put n α) (t l : Byte)
    (k : Fin n) (hn : n ≤ 65535) (e : List Byte) (a : α) (s : State) (hl : e.length = size) (hp : parse e = some a) :
    loadTable size parse put (loadOne t l k.val e) s =
      match put k a s with
      | .ok u => (u, .ok)
      | .error x => (s, .skip k.val x) := by
  have hk := k.isLt
  have whole : e.take size = e := List.take_of_length_le (by omega)
  have inside : ¬ (n < k.val + 1) := by omega
  unfold loadTable
  rw [parseHeader_loadOne _ _ _ _ (by omega)]
  simp only [hl, Nat.one_mul, if_true, parseEntries, whole, hp, inside, if_false, putEntries]
  simp only [index?, hk, dite_true, putEntry]
  cases h : put k a s <;> simp [LoadRun.reply, Reply.skip, Reply.ok]

/-! ## Arriving frames -/

/-- A good frame of its kind on an UP port A is acted on (R1, R2). -/
theorem arrives_good {f : Frame} {s : State} {kind : Byte} {act : State → State} (h : s.trunk.linkA = .up)
    (g : f.good .a = true) (k : f.kind = kind) : arrives .a kind f act s = act s := by
  simp [arrives, Trunk.link, h, g, k]

/-- While port B is DOWN nothing is relayed (R1). -/
theorem relayDown_down (f : Frame) (s : State) (h : s.trunk.linkB = .down) : relayDown f s = s := by
  simp [relayDown, h]

/-- A frame is relayed into a B-out queue with room (R4). -/
theorem relayDown_room (f : Frame) (s : State) (h : s.trunk.linkB = .up) (r : s.trunk.bOut.length < Config.bOutMax) :
    relayDown f s = { s with trunk := { s.trunk with bOut := s.trunk.bOut ++ [f] } } := by
  simp [relayDown, h, r, State.modTrunk]

/-- A frame that finds the B-out queue full is dropped, counted and checked (R4). -/
theorem relayDown_full (f : Frame) (s : State) (h : s.trunk.linkB = .up) (r : Config.bOutMax ≤ s.trunk.bOut.length) :
    relayDown f s =
      raiseCheck (.queue .bOut) none
        { s with trunk := { s.trunk with downDrops := satInc Config.countMax s.trunk.downDrops } } := by
  simp [relayDown, h, Nat.not_lt.mpr r, State.modTrunk]

/-! ## A bay's change of state -/

/-- A change of a bay's state: the bay record, then what the other blocks do with it, then the attract request and the
report (R45). -/
theorem enterState_enters (b : BayIx) (new : BayState) (c : BayCause) (s : State) :
    entersState b new c s (enterState b new c s) := by
  let s1 := s.modBay b (fun r => r.enter new s.now)
  let v := handOver b (s.bayState b) new s1
  have hv := touches_handOver b (s.bayState b) new s1
  have hb : v.bays = s1.bays := hv.same .bays (by decide)
  have hbb : v.bays[b] = (s.bays[b]).enter new s.now := by
    rw [hb]
    simp [s1, State.modBay, upd]
  have after : (attractRequest b new v).bays = v.bays := (touches_attractRequest b new v).same .bays (by decide)
  have reported : (enterState b new c s).bays = (attractRequest b new v).bays :=
    (touches_offerReport _ _).same .bays (by decide)
  refine ⟨v, rfl, hb, fun p hp => ?_, hv.placed.keeps, reported.trans after, ?_⟩
  · have h1 : s.same s1 p := by cases p <;> first | rfl | exact absurd (by decide) hp
    refine State.same_trans h1 (hv.same p fun hm => hp ?_)
    revert hm
    cases p <;> decide
  · have ha : (v.bays[b]).attractScene = (s.bays[b]).attractScene := by
      rw [hbb]
      rfl
    show bayReport b (s.bayState b) c (attractRequest b new v) = _
    unfold bayReport
    rw [after, hbb]
    unfold attractRequest
    rw [ha]
    cases new <;> cases (s.bays[b]).attractScene <;> rfl

/-- The bay's state after its change. -/
theorem entersState_bayState {b : BayIx} {new : BayState} {c : BayCause} {s t : State} (h : entersState b new c s t) :
    t.bayState b = new := by
  obtain ⟨v, -, hb, -, -, ht, -⟩ := h
  simp [State.bayState, ht, hb, upd]

/-! ## Notices to the Cue Engine -/

/-- A completed wait before cue 2,047 changes its instance's record only (R133, R141). -/
theorem completeWait_passes {i : InstIx} {s : State} (h : (s.insts[i]).cue.val < 2047) :
    completeWait i s = ({ s with insts := upd s.insts i (fun n => n.passed s) }, []) := by
  have hk : (s.insts[i]).cue.val + 1 < 2048 := by omega
  have hi : index? 2048 ((s.insts[i]).cue.val + 1) = some (Fin.ofNat 2048 ((s.insts[i]).cue.val + 1)) := by
    simp only [index?, hk, dite_true, Option.some.injEq]
    exact Fin.ext (Nat.mod_eq_of_lt hk).symm
  simp only [completeWait, passTo, hi, State.modInst]
  simp [upd, State.now, Inst.passed]

/-- A walk of a notice over some of the instances. -/
theorem notify_walk {on : WaitOn} {s : State} (h : s.mayPass on) (l : List InstIx) (hl : l.Nodup) (v : Vector Inst 12)
    (hv : ∀ i ∈ l, v[i] = s.insts[i]) (r : List InstIx) :
    l.foldl (fun t i =>
        let q := (fun i u => if (u.insts[i]).waitsOn on then completeWait i u else (u, ([] : List InstIx))) i t.1
        (q.1, t.2 ++ q.2)) (({ s with insts := v } : State), r) =
      ({ s with
         insts := tabulate 12 (fun i =>
           if i ∈ l ∧ (s.insts[i]).waitsOn on = true then (s.insts[i]).passed s else v[i]) }, r) := by
  induction l generalizing v with
  | nil =>
    have : v = tabulate 12 (fun i => v[i]) := Vector.ext (fun k hk => by simp)
    simpa using this
  | cons j l ih =>
    have hj := hv j (by simp)
    have hjl : j ∉ l := (List.nodup_cons.mp hl).1
    rw [List.foldl_cons]
    have step : (if (v[j]).waitsOn on then completeWait j { s with insts := v } else ({ s with insts := v }, [])) =
        (({ s with
            insts := upd v j (fun n => if (s.insts[j]).waitsOn on then (s.insts[j]).passed s else n) } : State),
          ([] : List InstIx)) := by
      by_cases w : (s.insts[j]).waitsOn on = true
      · have hc := h j w
        rw [if_pos (by rw [hj]; exact w), completeWait_passes (by simpa [hj] using hc)]
        simp only [w, if_true, upd]
        rw [hj]
        rfl
      · rw [if_neg (by rw [hj]; exact w)]
        have same : upd v j (fun n => n) = v := Vector.ext fun k hk => by simp
        simp only [if_neg w, same]
    simp only at ih ⊢
    rw [step]
    simp only [List.append_nil]
    rw [ih (List.nodup_cons.mp hl).2]
    · congr 2
      refine Vector.ext fun k hk => ?_
      simp only [tabulate_getElem, upd_getElem, Fin.getElem_fin, List.mem_cons]
      by_cases e : j.val = k
      · subst e
        by_cases w : (s.insts[j.val]).waitsOn on = true <;> simp [w, hjl]
      · have : (⟨k, hk⟩ : Fin 12) ≠ j := fun x => e (by simp [← x])
        simp [e, this]
    · intro i hi
      rw [upd_get_other _ _ _ _ (by rintro rfl; exact hjl hi)]
      exact hv i (by simp [hi])

/-- A notice, where every RUNNING instance that waits on its object may pass to its next cue (R141). -/
theorem notify_passedOn {on : WaitOn} {s : State} (h : s.mayPass on) :
    notify on s = ({ s with insts := s.passedOn on }, []) := by
  refine (notify_walk h (List.finRange 12) (List.nodup_finRange 12) s.insts (fun _ _ => rfl) []).trans ?_
  simp [State.passedOn]

end Sys2Proof.Machine
end

