-- ==== Sys2Proof/Laws/PerInstr.lean ====
section
/-! SUPPORT. What the well-formedness of a term says, row by row: a row that executes a command is exactly the row that the
command's code and table name, and a frame row's frame is one that its port takes as that kind (R2, 12.2, 12.3). -/

namespace Sys2Proof.Laws.Command

/-- The code, tag and operand bytes of a row that executes a command (12.2). -/
def commandOf : Instr → Option (Byte × Byte × List Byte)
  | .unknownCommand tag code ops => some (code, tag, ops)
  | .loadParams tag ops => some (0x01, tag, ops)
  | .loadWatch tag ops => some (0x01, tag, ops)
  | .loadSlot tag ops => some (0x01, tag, ops)
  | .loadLine tag ops => some (0x01, tag, ops)
  | .loadCurve tag ops => some (0x01, tag, ops)
  | .loadGroup tag ops => some (0x01, tag, ops)
  | .loadBay tag ops => some (0x01, tag, ops)
  | .loadTrigger tag ops => some (0x01, tag, ops)
  | .loadScene tag ops => some (0x01, tag, ops)
  | .loadCue tag ops => some (0x01, tag, ops)
  | .loadZone tag ops => some (0x01, tag, ops)
  | .loadAxis tag ops => some (0x01, tag, ops)
  | .read tag ops => some (0x02, tag, ops)
  | .resetPart tag ops => some (0x03, tag, ops)
  | .lineOn tag ops => some (0x10, tag, ops)
  | .lineOff tag ops => some (0x11, tag, ops)
  | .openBay tag ops => some (0x20, tag, ops)
  | .closeBay tag ops => some (0x21, tag, ops)
  | .holdBay tag ops => some (0x22, tag, ops)
  | .releaseBay tag ops => some (0x23, tag, ops)
  | .serviceBay tag ops => some (0x24, tag, ops)
  | .parkSlot tag ops => some (0x30, tag, ops)
  | .unparkSlot tag ops => some (0x31, tag, ops)
  | .setMaster tag ops => some (0x32, tag, ops)
  | .startScene tag ops => some (0x40, tag, ops)
  | .stopScene tag ops => some (0x41, tag, ops)
  | .resetAxis tag ops => some (0x50, tag, ops)
  | .setReporting tag ops => some (0x60, tag, ops)
  | .clearChecks tag ops => some (0x61, tag, ops)
  | .loadUnknownTable tag ops => some (0x01, tag, ops)
  | .coldReset _ | .linkUp _ | .linkDown _ | .levelFrame _ | .clockFrame _ | .blockFrame _ | .commandFrame _
  | .returnFrame _ | .portBTransmissionDone | .portATransmissionDone | .waitingAnswerPlaced | .frameStart _
  | .replyWindow _ _ _ | .frameEnd _ | .lingerExpiry _ | .holdReleaseExpiry _ | .staleExpiry _ | .fadeEndEvent _ _
  | .throttleExpiry | .readyTimeExpiry _ | .waitEntryExpiry _ | .dueEvent _ | .waitTimeout _ | .nextSendExpiry _ _
  | .axisEndDeadline _ | .refillDeadlineExpiry _ | .malformedFrameReceived _ _ => none

/-- The port, the kind and the frame of a row of a good frame; a frame on port B may be of either upstream kind (R2). -/
def frameOf : Instr → Option (Port × Byte × Frame)
  | .levelFrame f => some (.a, kindLevel, f)
  | .clockFrame f => some (.a, kindClock, f)
  | .blockFrame f => some (.a, kindBlock, f)
  | .commandFrame f => some (.a, kindCommand, f)
  | .returnFrame f => some (.b, f.kind, f)
  | .coldReset _ | .linkUp _ | .linkDown _ | .portBTransmissionDone | .portATransmissionDone | .waitingAnswerPlaced
  | .unknownCommand _ _ _ | .loadParams _ _ | .loadWatch _ _ | .loadSlot _ _ | .loadLine _ _ | .loadCurve _ _
  | .loadGroup _ _ | .loadBay _ _ | .loadTrigger _ _ | .loadScene _ _ | .loadCue _ _ | .loadZone _ _ | .loadAxis _ _
  | .read _ _ | .resetPart _ _ | .lineOn _ _ | .lineOff _ _ | .openBay _ _ | .closeBay _ _ | .holdBay _ _
  | .releaseBay _ _ | .serviceBay _ _ | .parkSlot _ _ | .unparkSlot _ _ | .setMaster _ _ | .startScene _ _
  | .stopScene _ _ | .resetAxis _ _ | .setReporting _ _ | .clearChecks _ _ | .frameStart _ | .replyWindow _ _ _
  | .frameEnd _ | .lingerExpiry _ | .holdReleaseExpiry _ | .staleExpiry _ | .fadeEndEvent _ _ | .throttleExpiry
  | .readyTimeExpiry _ | .waitEntryExpiry _ | .dueEvent _ | .waitTimeout _ | .nextSendExpiry _ _ | .axisEndDeadline _
  | .refillDeadlineExpiry _ | .malformedFrameReceived _ _ | .loadUnknownTable _ _ => none

/-- A well-formed row that executes a command is the row its code, tag and bytes name, and its bytes fit in a COMMAND
frame; a well-formed frame row carries a frame that passes the envelope test on its port and is of its kind. -/
def Statement (i : Instr) : Prop :=
  i.wellFormed = true →
    (∀ code tag ops, commandOf i = some (code, tag, ops) → commandInstr tag code ops = i ∧ ops.length ≤ 510) ∧
    ∀ p kind f, frameOf i = some (p, kind, f) → f.good p = true ∧ f.kind = kind

theorem of_command {i : Instr} {code tag : Byte} {ops : List Byte} (c : commandOf i = some (code, tag, ops))
    (f : frameOf i = none) (h : i.wellFormed = true → commandInstr tag code ops = i ∧ ops.length ≤ 510) : Statement i := by
  intro w
  refine ⟨fun code' tag' ops' e => ?_, fun p k g e => ?_⟩
  · obtain ⟨rfl, rfl, rfl⟩ : code = code' ∧ tag = tag' ∧ ops = ops' := by simpa [c] using e
    exact h w
  · simp [f] at e

theorem of_frame {i : Instr} {p : Port} {k : Byte} {g : Frame} (c : commandOf i = none) (f : frameOf i = some (p, k, g))
    (h : i.wellFormed = true → g.good p = true ∧ g.kind = k) : Statement i := by
  intro w
  refine ⟨fun code tag ops e => by simp [c] at e, fun p' k' g' e => ?_⟩
  obtain ⟨rfl, rfl, rfl⟩ : p = p' ∧ k = k' ∧ g = g' := by simpa [f] using e
  exact h w

theorem of_event {i : Instr} (c : commandOf i = none) (f : frameOf i = none) : Statement i := fun _ =>
  ⟨fun _ _ _ e => by simp [c] at e, fun _ _ _ e => by simp [f] at e⟩

theorem of_load {i : Instr} {tag : Byte} {ops : List Byte} (w : (fits ops && decide (loadInstr tag ops = i)) = true) :
    commandInstr tag 0x01 ops = i ∧ ops.length ≤ 510 := by
  obtain ⟨a, b⟩ := Bool.and_eq_true_iff.mp w
  exact ⟨by simpa [commandInstr] using b, by simpa [fits] using a⟩

theorem of_fits {i : Instr} {code tag : Byte} {ops : List Byte} (w : fits ops = true) (e : commandInstr tag code ops = i) :
    commandInstr tag code ops = i ∧ ops.length ≤ 510 := ⟨e, by simpa [fits] using w⟩

theorem coldReset (strap : StationIx) : Statement (.coldReset strap) := of_event rfl rfl

theorem linkUp (p : Port) : Statement (.linkUp p) := of_event rfl rfl

theorem linkDown (p : Port) : Statement (.linkDown p) := of_event rfl rfl

theorem levelFrame (f : Frame) : Statement (.levelFrame f) :=
  of_frame rfl rfl fun w => by simpa [Instr.wellFormed, Frame.goodOf] using w

theorem clockFrame (f : Frame) : Statement (.clockFrame f) :=
  of_frame rfl rfl fun w => by simpa [Instr.wellFormed, Frame.goodOf] using w

theorem blockFrame (f : Frame) : Statement (.blockFrame f) :=
  of_frame rfl rfl fun w => by simpa [Instr.wellFormed, Frame.goodOf] using w

theorem commandFrame (f : Frame) : Statement (.commandFrame f) :=
  of_frame rfl rfl fun w => by simpa [Instr.wellFormed, Frame.goodOf] using w

theorem returnFrame (f : Frame) : Statement (.returnFrame f) := of_frame rfl rfl fun w => ⟨w, rfl⟩

theorem portBTransmissionDone : Statement .portBTransmissionDone := of_event rfl rfl

theorem portATransmissionDone : Statement .portATransmissionDone := of_event rfl rfl

theorem waitingAnswerPlaced : Statement .waitingAnswerPlaced := of_event rfl rfl

theorem unknownCommand (tag code : Byte) (ops : List Byte) : Statement (.unknownCommand tag code ops) :=
  of_command rfl rfl fun w => by simpa [Instr.wellFormed, fits, and_comm] using w

theorem loadParams (tag : Byte) (ops : List Byte) : Statement (.loadParams tag ops) :=
  of_command rfl rfl fun w => of_load w

theorem loadWatch (tag : Byte) (ops : List Byte) : Statement (.loadWatch tag ops) :=
  of_command rfl rfl fun w => of_load w

theorem loadSlot (tag : Byte) (ops : List Byte) : Statement (.loadSlot tag ops) :=
  of_command rfl rfl fun w => of_load w

theorem loadLine (tag : Byte) (ops : List Byte) : Statement (.loadLine tag ops) :=
  of_command rfl rfl fun w => of_load w

theorem loadCurve (tag : Byte) (ops : List Byte) : Statement (.loadCurve tag ops) :=
  of_command rfl rfl fun w => of_load w

theorem loadGroup (tag : Byte) (ops : List Byte) : Statement (.loadGroup tag ops) :=
  of_command rfl rfl fun w => of_load w

theorem loadBay (tag : Byte) (ops : List Byte) : Statement (.loadBay tag ops) :=
  of_command rfl rfl fun w => of_load w

theorem loadTrigger (tag : Byte) (ops : List Byte) : Statement (.loadTrigger tag ops) :=
  of_command rfl rfl fun w => of_load w

theorem loadScene (tag : Byte) (ops : List Byte) : Statement (.loadScene tag ops) :=
  of_command rfl rfl fun w => of_load w

theorem loadCue (tag : Byte) (ops : List Byte) : Statement (.loadCue tag ops) :=
  of_command rfl rfl fun w => of_load w

theorem loadZone (tag : Byte) (ops : List Byte) : Statement (.loadZone tag ops) :=
  of_command rfl rfl fun w => of_load w

theorem loadAxis (tag : Byte) (ops : List Byte) : Statement (.loadAxis tag ops) :=
  of_command rfl rfl fun w => of_load w

theorem read (tag : Byte) (ops : List Byte) : Statement (.read tag ops) := of_command rfl rfl fun w => of_fits w rfl

theorem resetPart (tag : Byte) (ops : List Byte) : Statement (.resetPart tag ops) :=
  of_command rfl rfl fun w => of_fits w rfl

theorem lineOn (tag : Byte) (ops : List Byte) : Statement (.lineOn tag ops) :=
  of_command rfl rfl fun w => of_fits w rfl

theorem lineOff (tag : Byte) (ops : List Byte) : Statement (.lineOff tag ops) :=
  of_command rfl rfl fun w => of_fits w rfl

theorem openBay (tag : Byte) (ops : List Byte) : Statement (.openBay tag ops) :=
  of_command rfl rfl fun w => of_fits w rfl

theorem closeBay (tag : Byte) (ops : List Byte) : Statement (.closeBay tag ops) :=
  of_command rfl rfl fun w => of_fits w rfl

theorem holdBay (tag : Byte) (ops : List Byte) : Statement (.holdBay tag ops) :=
  of_command rfl rfl fun w => of_fits w rfl

theorem releaseBay (tag : Byte) (ops : List Byte) : Statement (.releaseBay tag ops) :=
  of_command rfl rfl fun w => of_fits w rfl

theorem serviceBay (tag : Byte) (ops : List Byte) : Statement (.serviceBay tag ops) :=
  of_command rfl rfl fun w => of_fits w rfl

theorem parkSlot (tag : Byte) (ops : List Byte) : Statement (.parkSlot tag ops) :=
  of_command rfl rfl fun w => of_fits w rfl

theorem unparkSlot (tag : Byte) (ops : List Byte) : Statement (.unparkSlot tag ops) :=
  of_command rfl rfl fun w => of_fits w rfl

theorem setMaster (tag : Byte) (ops : List Byte) : Statement (.setMaster tag ops) :=
  of_command rfl rfl fun w => of_fits w rfl

theorem startScene (tag : Byte) (ops : List Byte) : Statement (.startScene tag ops) :=
  of_command rfl rfl fun w => of_fits w rfl

theorem stopScene (tag : Byte) (ops : List Byte) : Statement (.stopScene tag ops) :=
  of_command rfl rfl fun w => of_fits w rfl

theorem resetAxis (tag : Byte) (ops : List Byte) : Statement (.resetAxis tag ops) :=
  of_command rfl rfl fun w => of_fits w rfl

theorem setReporting (tag : Byte) (ops : List Byte) : Statement (.setReporting tag ops) :=
  of_command rfl rfl fun w => of_fits w rfl

theorem clearChecks (tag : Byte) (ops : List Byte) : Statement (.clearChecks tag ops) :=
  of_command rfl rfl fun w => of_fits w rfl

theorem frameStart (line : LineIx) : Statement (.frameStart line) := of_event rfl rfl

theorem replyWindow (line : LineIx) (slot : SlotIx) (word : Option (BitVec 17)) : Statement (.replyWindow line slot word) :=
  of_event rfl rfl

theorem frameEnd (line : LineIx) : Statement (.frameEnd line) := of_event rfl rfl

theorem lingerExpiry (bay : BayIx) : Statement (.lingerExpiry bay) := of_event rfl rfl

theorem holdReleaseExpiry (bay : BayIx) : Statement (.holdReleaseExpiry bay) := of_event rfl rfl

theorem staleExpiry (entry : WatchIx) : Statement (.staleExpiry entry) := of_event rfl rfl

theorem fadeEndEvent (line : LineIx) (slot : SlotIx) : Statement (.fadeEndEvent line slot) := of_event rfl rfl

theorem throttleExpiry : Statement .throttleExpiry := of_event rfl rfl

theorem readyTimeExpiry (scene : SceneIx) : Statement (.readyTimeExpiry scene) := of_event rfl rfl

theorem waitEntryExpiry (scene : SceneIx) : Statement (.waitEntryExpiry scene) := of_event rfl rfl

theorem dueEvent (i : InstIx) : Statement (.dueEvent i) := of_event rfl rfl

theorem waitTimeout (i : InstIx) : Statement (.waitTimeout i) := of_event rfl rfl

theorem nextSendExpiry (zone : ZoneIx) (stream : Stream) : Statement (.nextSendExpiry zone stream) :=
  of_event rfl rfl

theorem axisEndDeadline (axis : AxisIx) : Statement (.axisEndDeadline axis) := of_event rfl rfl

theorem refillDeadlineExpiry (axis : AxisIx) : Statement (.refillDeadlineExpiry axis) := of_event rfl rfl

theorem malformedFrameReceived (p : Port) (f : Frame) : Statement (.malformedFrameReceived p f) := of_event rfl rfl

theorem loadUnknownTable (tag : Byte) (ops : List Byte) : Statement (.loadUnknownTable tag ops) :=
  of_command rfl rfl fun w => of_load w

end Sys2Proof.Laws.Command
end

