-- ==== Sys2Proof/Tests/Slice0.lean ====
section
/-! SUPPORT. Tests: ill-formed terms that `wellFormed` refuses, one or two small tests per row with the values the
manual's worked sequences give, and a concrete state that meets the hypotheses of each statement. -/

set_option Elab.async false

namespace Sys2Proof.Tests

open Sys2Proof.Machine

/-! ## Helpers -/

/-- A state whose head command is the given one, with tag 7. -/
def headed (code : Byte) (ops : List Byte) (s : State) : State :=
  { s with cmd := { queue := [{ tag := 7, code := code, ops := ops }], waiting := none } }

/-- The next state of an outcome. -/
def after (o : Result) : State :=
  match o with
  | .next t => t
  | .fault f => nomatch f
  | .refused _ => State.blank

/-- The status and detail of the answer that was placed last. -/
def answered (o : Result) : Option (Status × Detail) :=
  match (after o).trunk.own.getLast? with
  | some (.answer a) => some (a.status, a.detail)
  | _ => none

/-- A state at a part time. -/
def atTime (n : Nat) (s : State) : State := s.modTrunk (fun t => { t with now := BitVec.ofNat 32 n })

/-- The part after a cold reset with both ports UP. -/
def linked : State := State.reset.modTrunk (fun t => { t with linkA := .up, linkB := .up })

/-- A report to fill the own queue with. -/
def filler : OwnFrame := .report { showTime := 0, lost := 0, body := .pace 0 true 0 0 }

/-- A state whose own queue is full while port A is DOWN. -/
def ownFull : State := State.reset.modTrunk (fun t => { t with own := List.replicate 32 filler })

/-- A COMMAND frame. -/
def commandTo (station : Byte) (payload : List Byte) : Frame := Frame.build kindCommand station payload

/-- A CLOCK frame. -/
def clock : Frame := Frame.build kindClock 0 [0x00, 0x01, 0xE2, 0x40]

/-- A BLOCK frame of a zone, a class and a clip. -/
def block (zone cls clip : Byte) (bytes : Nat) : Frame :=
  Frame.build kindBlock 0 ([zone, cls, 0, clip, 0, 0] ++ toBytes2 bytes ++ List.replicate bytes 0)

/-- A LEVEL frame of universe 12. -/
def level : Frame := Frame.build kindLevel 0 ([0, 12] ++ List.replicate 256 40)

/-- A frame that its builder made passes the envelope test when its length and its direction do. -/
theorem build_good (p : Port) (kind station : Byte) (payload : List Byte) :
    (Frame.build kind station payload).good p =
      (lengthAllowed kind payload && directionAllowed p kind &&
        !(kind == kindBlock && (Frame.build kind station payload).dest == 63)) := by
  simp [Frame.good, Frame.build, Frame.body]

/-! ## Ill-formed terms -/

theorem test_wf_bad_check_word : (Instr.clockFrame { clock with check := clock.check + 1 }).wellFormed = false := by
  decide +kernel
theorem test_wf_wrong_kind : (Instr.levelFrame clock).wellFormed = false ∧ (Instr.blockFrame clock).wellFormed = false ∧
    (Instr.commandFrame clock).wellFormed = false ∧ (Instr.clockFrame clock).wellFormed = true := by decide +kernel
theorem test_wf_wrong_direction : (Instr.returnFrame clock).wellFormed = false ∧
    (Instr.clockFrame (Frame.build kindAnswer 0 [7, 0x20, 0])).wellFormed = false := by decide +kernel
theorem test_wf_length : (Instr.clockFrame (Frame.build kindClock 0 [0, 0, 0])).wellFormed = false ∧
    (Instr.commandFrame (commandTo 0 [7])).wellFormed = false ∧
    (Instr.blockFrame (Frame.build kindBlock 0 [0, 0, 0, 0, 0, 0, 0, 0])).wellFormed = false := by decide +kernel
theorem test_wf_block_broadcast : (Instr.blockFrame { block 0 0 0 1 with station := 63 }).wellFormed = false ∧
    (Frame.build kindBlock 63 (block 0 0 0 1).payload).good .a = false ∧
    (Instr.blockFrame (block 0 0 0 1)).wellFormed = true := by decide +kernel
theorem test_wf_malformed_is_good : (Instr.malformedFrameReceived .a clock).wellFormed = false ∧
    (Instr.malformedFrameReceived .b clock).wellFormed = true := by decide +kernel
theorem test_wf_unknown_command : (Instr.unknownCommand 7 0x20 [1]).wellFormed = false ∧
    (Instr.unknownCommand 7 0x21 [1]).wellFormed = false ∧ (Instr.unknownCommand 7 0x04 [1]).wellFormed = true := by
  decide
theorem test_wf_wrong_table :
    (Instr.loadParams 7 [1, 0]).wellFormed = false ∧ (Instr.loadWatch 7 [0, 0]).wellFormed = false ∧
    (Instr.loadSlot 7 [2, 6]).wellFormed = false ∧ (Instr.loadLine 7 [2, 0]).wellFormed = false ∧
    (Instr.loadCurve 7 [5, 0]).wellFormed = false ∧ (Instr.loadGroup 7 [4, 0]).wellFormed = false ∧
    (Instr.loadBay 7 [7, 0]).wellFormed = false ∧ (Instr.loadTrigger 7 [6, 0]).wellFormed = false ∧
    (Instr.loadScene 7 [9, 0]).wellFormed = false ∧ (Instr.loadCue 7 [8, 0]).wellFormed = false ∧
    (Instr.loadZone 7 [11, 0]).wellFormed = false ∧ (Instr.loadAxis 7 [10, 0]).wellFormed = false ∧
    (Instr.loadUnknownTable 7 [11, 0]).wellFormed = false ∧ (Instr.loadUnknownTable 7 [2, 6]).wellFormed = true := by
  decide

/-- Operand bytes one more than a COMMAND frame holds. -/
def tooMany : List Byte := List.replicate 511 0

theorem test_wf_too_many_bytes :
    [Instr.read 7 tooMany, .resetPart 7 tooMany, .lineOn 7 tooMany, .lineOff 7 tooMany, .openBay 7 tooMany,
      .closeBay 7 tooMany, .holdBay 7 tooMany, .releaseBay 7 tooMany, .serviceBay 7 tooMany, .parkSlot 7 tooMany,
      .unparkSlot 7 tooMany, .setMaster 7 tooMany, .startScene 7 tooMany, .stopScene 7 tooMany, .resetAxis 7 tooMany,
      .setReporting 7 tooMany, .clearChecks 7 tooMany, .unknownCommand 7 4 tooMany, .loadParams 7 tooMany].all
      (fun i => !i.wellFormed) = true := by decide +kernel

/-! ## The trunk -/

/-- The check word's generator, initial value and order (12.1): the usual check value of the nine digits is 29B1h. -/
theorem test_check_word : crc16 [0x31, 0x32, 0x33, 0x34, 0x35, 0x36, 0x37, 0x38, 0x39] = 0x29B1 := by decide +kernel

theorem test_cold_reset_started : (after (exec (.coldReset 63) ownFull)).trunk.own = [coldStarted 63] ∧
    (after (exec (.coldReset 63) ownFull)).trunk.stationByte = 63 := by decide +kernel
theorem test_link_up_sends : (after (exec (.linkUp .a) State.reset)).trunk.own = [] ∧
    (after (exec (.linkUp .a) State.reset)).trunk.lastServed = .own := by decide +kernel
theorem test_link_down_empties : (after (exec (.linkDown .b)
    (linked.modTrunk (fun t => { t with bOut := [clock, clock] })))).trunk.bOut = [] := by decide +kernel
theorem test_level_frame_deadline :
    ((takeLevel level.payload (atTime 5200 (linked.modWatch 2 (fun w => { w with uni := some 12 })))).watch[
      (2 : WatchIx)]).deadline = some 6200 := by decide +kernel
theorem test_clock_frame_show_time : (after (exec (.clockFrame clock) (atTime 5000 linked))).showTime = 123456 := by
  decide +kernel
theorem test_return_frame_relayed : (after (exec (.returnFrame (Frame.build kindAnswer 5 [7, 0x20, 0]))
    (linked.modTrunk (fun t => { t with linkA := .down })))).trunk.relay = [Frame.build kindAnswer 5 [7, 0x20, 0]] := by
  decide +kernel
theorem test_port_b_done : (after (exec .portBTransmissionDone
    (linked.modTrunk (fun t => { t with bOut := [clock, { clock with station := 1 }] })))).trunk.bOut =
    [{ clock with station := 1 }] := by decide +kernel

/-- The worked sequence of an answer behind a full own queue: 32 own frames, 2 relayed, port A sending (chapter 1). -/
def waitingAnswer : State :=
  { ownFull with
    trunk :=
      { ownFull.trunk with linkA := .up, sendingA := some clock, relay := [clock, clock], lastServed := .relay }
    cmd := { queue := [{ tag := 17, code := 2, ops := [] }], waiting := some { tag := 17, code := 2, status := .ok, detail := .none } } }

theorem test_port_a_done_takes_own : (after (exec .portATransmissionDone waitingAnswer)).trunk.own.length = 31 ∧
    (after (exec .portATransmissionDone waitingAnswer)).trunk.lastServed = .own := by decide +kernel
theorem test_waiting_answer_placed :
    let t := after (exec .waitingAnswerPlaced (after (exec .portATransmissionDone waitingAnswer)))
    t.trunk.own.length = 32 ∧ t.cmd.queue = [] := by decide +kernel

/-- Eight commands queued and the own queue full: a BUSY answer is discarded and counted (chapter 1). -/
theorem test_command_frame_busy_discarded :
    (after (exec (.commandFrame (commandTo 0 [41, 0x20, 0]))
      { ownFull with
        trunk := { ownFull.trunk with linkA := .up, sendingA := some clock }
        cmd := { queue := List.replicate 8 { tag := 1, code := 2, ops := [] }, waiting := none } })).trunk.busyDiscards = 1 := by
  decide +kernel
theorem test_command_frame_queued : (after (exec (.commandFrame (commandTo 0xC0 [9, 0x20, 3])) linked)).cmd.queue =
    [{ tag := 9, code := 0x20, ops := [3] }] := by decide +kernel
theorem test_malformed_counted : (after (exec (.malformedFrameReceived .b clock) linked)).trunk.linkErrors = 1 := by
  decide +kernel
theorem test_unknown_command : answered (exec (.unknownCommand 7 0x04 [1]) (headed 0x04 [1] State.reset)) =
    some (.badFrame, .none) := by decide +kernel

/-! ## Narration frames -/

/-- The pool under pressure (chapter 9): zone 4 owned by instance 6, expecting clip 31. -/
def pressure (free usage : Nat) : State :=
  { ((linked.modZone 4 (fun z =>
      { z with owner := some 6, clip := 31, clipState := .expecting, limit := 64, usage := usage, pauseLevel := 40,
               resumeLevel := 20, paused := true })).modZone 9 (fun z => { z with bay := 1, ambientEnable := true })) with
    pool := { free := free }
    bays := mapAll (fun b => { b with state := .attract }) State.blank.bays }

theorem test_block_ambient_reserve : let t := arriveChunk (block 9 2 0 384).payload (pressure 195 60)
    t.pool.free = 195 ∧ (t.zones[(9 : ZoneIx)]).drops = 1 := by decide +kernel
theorem test_block_scene_stored : let t := arriveChunk (block 4 1 31 384).payload (pressure 195 60)
    t.pool.free = 191 ∧ (t.zones[(4 : ZoneIx)]).usage = 64 := by decide +kernel

/-! ## LOAD and READ -/

/-- The outcome of a LOAD of one entry at the head of the command queue. -/
def loaded (row : Byte → List Byte → Instr) (table line : Byte) (k : Nat) (e : List Byte) (s : State) : Result :=
  exec (row 7 (loadOne table line k e)) (headed 0x01 (loadOne table line k e) s)

/-- A number of zero bytes. -/
def zeros (n : Nat) : List Byte := List.replicate n 0

theorem test_load_params_clamps :
    (after (loaded .loadParams 0 0 0 [0, 0, 0xFF, 0xFF, 0x06, 0x01, 0, 48] State.reset)).params =
      { throttle := 250, stale := 10000, ambientReserve := 1536, sceneReserve := 48 } := by decide +kernel
theorem test_load_watch_begins : let t := after (loaded .loadWatch 1 0 2 [0, 13]
      (State.reset.modWatch 2 (fun w => { w with uni := some 12, received := true, deadline := some 13400 })))
    (t.watch[(2 : WatchIx)]).received = false ∧ (t.watch[(2 : WatchIx)]).deadline = none := by decide +kernel
theorem test_load_watch_taken : answered (loaded .loadWatch 1 0 2 [0, 12] (State.reset.modWatch 5 (fun w =>
    { w with uni := some 12 }))) = some (.inUse, .skipped 2 1 .badValue) := by decide +kernel
theorem test_load_slot_kind : answered (loaded .loadSlot 2 5 47 (5 :: zeros 10) State.reset) = some (.badFrame, .none) ∧
    ((after (loaded .loadSlot 2 5 47 (4 :: zeros 10) State.reset)).loadedSlot 5 47).kind = .reply := by decide +kernel
theorem test_load_slot_group : answered (loaded .loadSlot 2 1 4 (2 :: zeros 10)
    (State.reset.modGroup 12 (fun g => { g with members := [(1, 4)] }))) = some (.inUse, .skipped 4 1 .badValue) := by
  decide +kernel
theorem test_load_line_clamps : let p := ((after (loaded .loadLine 3 0 5 (0 :: 4 :: 13 :: (zeros 5 ++ [1]))
      State.reset)).lines[(5 : LineIx)]).loadedParams
    p.interval = 5 ∧ p.allowance = 12 ∧ p.mask.getLsbD 0 = true := by decide +kernel
theorem test_load_curve_zero : answered (loaded .loadCurve 4 0 0 (zeros 34) State.reset) =
    some (.inUse, .skipped 0 1 .badValue) := by decide +kernel
theorem test_load_curve : let t := after (loaded .loadCurve 4 0 3 (zeros 6 ++ [0x23, 0x28] ++ zeros 26) State.reset)
    (t.curves[(3 : CurveIx)]).point 3 = 9000 ∧ ((t.curvesInForce[(0 : LineIx)])[(3 : CurveIx)]).point 3 = 12288 := by
  decide +kernel
theorem test_load_group_kind : answered (loaded .loadGroup 5 0 12 (1 :: 1 :: 4 :: zeros 30) State.reset) =
    some (.inUse, .skipped 12 1 .badValue) := by decide +kernel
theorem test_load_group_count : answered (loaded .loadGroup 5 0 12 (17 :: zeros 32) State.reset) =
    some (.badFrame, .none) := by decide +kernel
theorem test_load_bay : let r := (after (loaded .loadBay 6 0 2 [0, 0, 0x1F, 0x40, 0x0B, 0xB8, 1, 2, 3, 0, 4, 14]
      State.reset)).bays[(2 : BayIx)]
    r.lingerTime = 8000 ∧ r.holdReleaseTime = 3000 ∧ r.attractScene = some 14 := by decide +kernel
theorem test_load_trigger_key : answered (loaded .loadTrigger 7 0 21 [3, 2, 14, 3, 0, 0, 1, 0]
    (State.reset.modTrig 20 (fun r => { r with action := .start 8, line := 2, slot := 14, bit := 3 }))) =
    some (.inUse, .skipped 21 1 .badValue) := by decide +kernel
theorem test_load_trigger_credit : ((after (loaded .loadTrigger 7 0 20 [1, 2, 14, 3, 0, 8, 2, 1]
    State.reset)).triggers[(20 : TrigIx)]).credit = 2 := by decide +kernel
theorem test_load_scene_twice : answered (loaded .loadScene 8 0 20 ([3, 2, 0x22] ++ zeros 14 ++ [2, 10, 10] ++ zeros 14)
    State.reset) = some (.inUse, .skipped 20 1 .badValue) := by decide +kernel
theorem test_load_cue_jump : ((after (loaded .loadCue 9 0 402 [0x01, 0xF4, 7, 0x01, 0x90, 2, 0, 0, 0, 0]
    State.reset)).cues[(402 : CueIx)]) = { delay := 500, kind := .jump 400 2 } := by decide +kernel
theorem test_load_zone_limit : ((after (loaded .loadZone 10 0 4 ([0, 1, 2, 255, 0] ++ zeros 12 ++ [0x02, 0x01] ++ zeros 5)
    State.reset)).zones[(4 : ZoneIx)]).limit = 512 := by decide +kernel
theorem test_load_axis_slots : answered (loaded .loadAxis 11 0 5 ([0, 0, 0, 255, 0] ++ zeros 24) State.reset) =
    some (.inUse, .skipped 5 1 .badValue) := by decide +kernel
theorem test_load_unknown_table : answered (exec (.loadUnknownTable 7 [12, 0, 0, 0, 0, 0])
    (headed 0x01 [12, 0, 0, 0, 0, 0] State.reset)) = some (.badTable, .none) := by decide +kernel
theorem test_read_params : answered (exec (.read 7 [0, 0, 0, 0, 0, 1]) (headed 0x02 [0, 0, 0, 0, 0, 1] State.reset)) =
    some (.ok, .read 0 0 0 1 [0x07, 0xD0, 0x03, 0xE8, 0, 192, 0, 48]) := by decide +kernel
theorem test_read_watch_pair : answered (exec (.read 7 [1, 0, 0, 0, 0, 2]) (headed 0x02 [1, 0, 0, 0, 0, 2] State.reset)) =
    some (.badFrame, .none) := by decide +kernel

/-! ## Commands -/

theorem test_reset_part_report :
    (after (exec (.resetPart 7 []) (headed 0x03 [] (atTime 9000 State.reset)))).trunk.own.length = 3 ∧
    (after (exec (.resetPart 7 []) (headed 0x03 [] (atTime 9000 State.reset)))).throttle = 11000 := by decide +kernel
theorem test_line_on : ((after (exec (.lineOn 7 [5]) (headed 0x10 [5] (atTime 40 State.reset)))).lines[(5 : LineIx)]).nextStart =
    some 40 := by decide +kernel
theorem test_line_off_in_frame : ((after (exec (.lineOff 7 [5]) (headed 0x11 [5] (State.reset.modLine 5 (fun e =>
    { e with running := true, frame := some 40 }))))).lines[(5 : LineIx)]).stopPending = true := by decide +kernel
theorem test_open_bay : answered (exec (.openBay 7 [2]) (headed 0x20 [2] State.reset)) = some (.ok, .bayState .attract) := by
  decide +kernel

/-- Bay 4 of the intrusion under an operator hold (chapter 3): LIVE with occupancy 3. -/
def bayFour (f : Bay → Bay) (s : State) : State :=
  s.modBay 4 (fun b => f { b with state := .live, occupancy := 3, holdReleaseTime := 3000 })

theorem test_close_bay : ((after (exec (.closeBay 7 [4]) (headed 0x21 [4] (bayFour id State.reset)))).bays[
    (4 : BayIx)]).state = .dark := by decide +kernel
theorem test_hold_bay : answered (exec (.holdBay 7 [4]) (headed 0x22 [4] (bayFour id State.reset))) =
    some (.ok, .bayState .hold) ∧
    answered (exec (.holdBay 7 [5]) (headed 0x22 [5] State.reset)) = some (.refused, .refused .bayState) := by
  decide +kernel
theorem test_release_bay : let t := after (exec (.releaseBay 7 [4]) (headed 0x23 [4]
      (bayFour (fun b => { b with state := .hold, causes := { command := true } }) State.reset)))
    (t.bays[(4 : BayIx)]).state = .live ∧ (t.bays[(4 : BayIx)]).linger = none := by decide +kernel
theorem test_service_bay : answered (exec (.serviceBay 7 [4]) (headed 0x24 [4] (bayFour id State.reset))) =
    some (.ok, .bayState .service) := by decide +kernel
theorem test_park : ((after (exec (.parkSlot 7 [5, 47, 0xFF, 0xFE]) (headed 0x30 [5, 47, 0xFF, 0xFE] State.reset))).parks[
    (5 : LineIx)])[(47 : SlotIx)] = some 65534 := by decide +kernel
theorem test_unpark_index : answered (exec (.unparkSlot 7 [5, 48]) (headed 0x31 [5, 48] State.reset)) =
    some (.badIndex, .none) := by decide +kernel
theorem test_set_master_value : answered (exec (.setMaster 7 [16, 0, 1, 0]) (headed 0x32 [16, 0, 1, 0] State.reset)) =
    some (.badFrame, .none) ∧
    answered (exec (.setMaster 7 [16, 0, 0, 255]) (headed 0x32 [16, 0, 0, 255] State.reset)) = some (.badIndex, .none) := by
  decide +kernel
theorem test_start_undefined : answered (exec (.startScene 7 [95]) (headed 0x40 [95] State.reset)) =
    some (.refused, .refused .notDefined) := by decide +kernel

/-- Scene 22 of the preemption's worked sequence (chapter 7) alone, its bay 3 LIVE. -/
def scene22 (s : State) : State :=
  (s.modBay 3 (fun b => { b with state := .live, occupancy := 1 })).modScene 22 (fun c =>
    { c with
      bay := 3, priority := 5, flags := { live := true, report := true }, release := 2000, cooldown := 20000,
      waitLimit := 5000, first := 400, groups := [11, 12], zones := [5] })

theorem test_start_scene : let t := after (exec (.startScene 7 [22]) (headed 0x40 [22] (atTime 100000 (scene22 State.reset))))
    (t.groups[(11 : GroupIx)]).owner = some 0 ∧ (t.insts[(0 : InstIx)]).due = some 100000 := by decide +kernel
theorem test_stop_scene_cools : let s := after (exec (.startScene 7 [22]) (headed 0x40 [22] (atTime 100000 (scene22 State.reset))))
    ((after (exec (.stopScene 7 [22]) (headed 0x41 [22] s))).scenes[(22 : SceneIx)]).ready = 120000 := by decide +kernel
theorem test_stop_nothing : answered (exec (.stopScene 7 [22]) (headed 0x41 [22] State.reset)) =
    some (.ok, .stopped false) := by decide +kernel
theorem test_reset_axis : ((after (exec (.resetAxis 7 [9]) (headed 0x50 [9] (State.reset.modAxis 9 (fun a =>
    { a with state := .stopped, pos := 12037, following := 3 }))))).axes[(9 : AxisIx)]).following = 0 := by decide +kernel
theorem test_set_reporting : answered (exec (.setReporting 7 [4, 0]) (headed 0x60 [4, 0] State.reset)) =
    some (.badFrame, .none) ∧
    (after (exec (.setReporting 7 [3, 0x81]) (headed 0x60 [3, 0x81] State.reset))).checks.mask =
      { trigger := true, scene := false, bay := false, pace := false, check := false } := by decide +kernel
theorem test_clear_checks : (after (exec (.clearChecks 7 []) (headed 0x61 []
    (State.reset.modTrunk (fun t => { t with linkErrors := 3 }))))).trunk.linkErrors = 0 := by decide +kernel

/-! ## Levels, fades and lines -/

/-- Slot 7 of line 2 of the worked computation (chapter 4): the bay LIVE, the fade 333 ms old. -/
def fadingLight : State :=
  let slot : SlotRec :=
    { kind := .level, bay := 4, patch := some (0, 7), curve := 3, workLight := true, ceiling := 60000 }
  { atTime 333 (State.reset.modLine 2 (fun e => { e with inForce := e.inForce.set 7 slot })) with
    bays := State.blank.bays.set 4 { state := .live, liveMaster := 200, workFloor := 20000 }
    watch := State.blank.watch.set 0 { received := true, image := (Vector.replicate 256 0).set 7 40 }
    curvesInForce := State.blank.curvesInForce.set 2
      (State.blank.curves.set 3 ((identityCurve.set 3 9000).set 4 15000))
    fades := State.blank.fades.set 2 ((Vector.replicate 48 {}).set 7
      { state := .fading, start := 10280, target := .fixed 51400, t0 := 0, duration := 2000, deadline := some 2000 }) }

theorem test_worked_level : workingLevel fadingLight 2 7 = 17126 ∧ slotValue fadingLight 2 7 = 10676 := by decide +kernel
theorem test_fade_steps : fadeAt 0 40000 1000 4000 = 10000 ∧ fadeAt 25700 40000 1000 4000 = 29275 ∧
    fadeAt 51400 40000 1000 4000 = 48550 ∧ fadeAt 12000 44975 600 1500 = 25190 := by decide
theorem test_identity_points : identityCurve.shape 63488 = 63488 ∧ identityCurve.shape 63489 = 63488 ∧
    identityCurve.shape 65535 = 65534 := by decide +kernel
theorem test_fade_end : ((after (exec (.fadeEndEvent 2 7) (atTime 2000 fadingLight))).fade 2 7).state = .holding := by
  decide +kernel
theorem test_frame_start_off : ((after (exec (.frameStart 0) (State.reset.modLine 0 (fun e =>
    { e with running := true, nextStart := some 0 })))).lines[(0 : LineIx)]).frame = some 0 := by decide +kernel

/-- Line 0 in a frame with an open TRIGGER window at slot 4 of node 3. -/
def polling (w : Window) : State :=
  State.reset.modLine 0 (fun e =>
    { e with
      running := true, frame := some 0, windows := e.windows.set 4 w
      inForce := e.inForce.set 4 { kind := .reply, node := 3 } })

theorem test_reply_parity :
    (((after (exec (.replyWindow 0 4 (some 0x00003)) (polling .opened))).lines[(0 : LineIx)]).windows)[(4 : SlotIx)] =
      .valid 3 ∧
    ((after (exec (.replyWindow 0 4 (some 0x10003)) (polling .opened))).lines[(0 : LineIx)]).replyErrors = 1 := by
  decide +kernel
theorem test_frame_end_present :
    (((after (exec (.frameEnd 0) (polling (.valid 3)))).lines[(0 : LineIx)]).nodes)[(3 : NodeIx)] =
      { presence := .present, misses := 0 } ∧
    ((after (exec (.frameEnd 0) (polling (.valid 3)))).lines[(0 : LineIx)]).nextStart = some 25 := by decide +kernel

/-! ## Bays, triggers and expiries -/

/-- Bay 2 of the visitors' worked sequence (chapter 3). -/
def bayTwo (f : Bay → Bay) (s : State) : State :=
  s.modBay 2 (fun b => f { b with state := .live, lingerTime := 8000, holdReleaseTime := 3000, attractScene := some 14 })

theorem test_leave_sets_linger : ((leaveBay 2 (atTime 36200 (bayTwo (fun b => { b with occupancy := 1 }) State.reset))).bays[
    (2 : BayIx)]).linger = some 44200 := by decide +kernel
theorem test_enter_cancels_linger : ((enterBay 2 (bayTwo (fun b => { b with linger := some 44200 }) State.reset)).bays[
    (2 : BayIx)]).linger = none := by decide +kernel
theorem test_linger_expiry : ((after (exec (.lingerExpiry 2) (atTime 49000
    (bayTwo (fun b => { b with linger := some 49000 }) State.reset)))).bays[(2 : BayIx)]).state = .attract := by decide +kernel
theorem test_intrusion_notice : let t := intrusionNotice 40 4 true (bayFour id State.reset)
    (t.bays[(4 : BayIx)]).state = .hold ∧ (t.bays[(4 : BayIx)]).causes.sensor = true := by decide +kernel
theorem test_intrusion_clears : ((intrusionNotice 40 4 false (atTime 61000 (bayFour (fun b =>
    { b with state := .hold, intrusions := [40], causes := { sensor := true, command := true } }) State.reset))).bays[
    (4 : BayIx)]).holdRelease = some 64000 := by decide +kernel
theorem test_hold_release_expiry : let t := after (exec (.holdReleaseExpiry 4) (atTime 65900 (bayFour (fun b =>
      { b with state := .hold, holdRelease := some 65900, causes := { sensor := true, command := true } }) State.reset)))
    (t.bays[(4 : BayIx)]).state = .hold ∧ (t.bays[(4 : BayIx)]).causes = { command := true } := by decide +kernel
theorem test_stale_expiry : ((after (exec (.staleExpiry 2) (atTime 6700 (State.reset.modWatch 2 (fun w =>
    { w with uni := some 12, received := true, deadline := some 6700 }))))).watch[(2 : WatchIx)]).stale = true := by
  decide +kernel

/-- The crowd at one button (chapter 6): entry 20 of bay 5. -/
def crowd (credit : Nat) : State :=
  (State.reset.modBay 5 (fun b => { b with state := .live, occupancy := 1 })).modTrig 20 (fun r =>
    { r with action := .start 8, line := 2, slot := 14, bit := 3, allowance := 2, credit := credit })

theorem test_press_dropped : ((press 20 5 .rise (crowd 0)).triggers[(20 : TrigIx)]).dropped = 1 := by decide +kernel
theorem test_press_spends : ((press 20 5 .rise (crowd 2)).triggers[(20 : TrigIx)]).credit = 1 := by decide +kernel
theorem test_throttle_expiry : let t := after (exec .throttleExpiry (atTime 12000 (crowd 0)))
    (t.triggers[(20 : TrigIx)]).credit = 2 ∧ t.throttle = 14000 := by decide +kernel
theorem test_ready_expiry : ((after (exec (.readyTimeExpiry 22) (atTime 120000 (State.reset.modScene 22 (fun c =>
    { c with ready := 120000, cooling := true }))))).scenes[(22 : SceneIx)]).cooling = false := by decide +kernel
theorem test_wait_expiry : (after (exec (.waitEntryExpiry 23) (atTime 116000 (State.reset.setWaitList
    [{ scene := 23, origin := .trigger, priority := 1, enqueued := 96000, expiry := 116000 }])))).waitList = [] := by
  decide +kernel
theorem test_next_send_expiry : ((after (exec (.nextSendExpiry 23 .bed) (State.reset.modZone 23 (fun z =>
    { z with bedNext := some 0, voiceNext := some 0 })))).zones[(23 : ZoneIx)]).bedNext = none := by decide +kernel

/-! ## Cues and motion -/

/-- An instance of a scene at a cue, due at a part time. -/
def running (cue : CueIx) (due : Option Time) (k : CueRec) (s : State) : State :=
  { ((s.modScene 8 (fun c => { c with flags := { live := true }, groups := [2], axes := [5] })).modInst 0 (fun n =>
      { n with state := .running, scene := 8, cue := cue, due := due })) with
    cues := (State.blank.cues.set 401 { delay := 500 }).set cue k }

/-- The counted loop's JUMP (chapter 8), at 11,000. -/
def jumping : State := atTime 11000 (running 402 (some 11000) { delay := 500, kind := .jump 401 2 } State.reset)

theorem test_jump_takes : let n := (after (exec (.dueEvent 0) jumping)).insts[(0 : InstIx)]
    n.loopOwner = some 402 ∧ n.loopCount = 1 ∧ n.due = some 11500 := by decide +kernel
theorem test_burst : ((after (exec (.dueEvent 0) (atTime 10000
    (running 400 (some 10000) { kind := .jump 400 0 } State.reset)))).insts[(0 : InstIx)]).due = some 10001 := by decide +kernel
theorem test_wait_timeout : let t := after (exec (.waitTimeout 0) (atTime 18000 ((running 400 none {} State.reset).modInst 0
      (fun n => { n with wait := some { on := .trigger 21, deadline := some 18000, action := .next } }))))
    (t.insts[(0 : InstIx)]).cue = 401 ∧ (t.insts[(0 : InstIx)]).due = some 18500 := by decide +kernel

/-- Axis 5 of the wear budget's worked sequence (chapter 10), its bay LIVE. -/
def axisFive (f : Axis → Axis) (now : Nat) : State :=
  atTime now ((State.reset.modBay 0 (fun b => { b with state := .live, occupancy := 1 })).modAxis 5 (fun a =>
    f { a with
        cbs := 4000, ebs := 2000, rate := 150, kl := 1000, sl := 3000, su := 10100, ku := 20000, maxSpeed := 1000,
        slowSpeed := 250, defaultSpeed := 500, state := .idle, pos := 10000, c := 900, e := 2000, refilled := 10000,
        owner := some 4 }))

theorem test_move_green : let a := ((moveRequest 5 11500 400 .trigger (axisFive id 14333)).1).axes[(5 : AxisIx)]
    a.c = 49 ∧ a.residue = 950 ∧ a.speed = 250 ∧ a.deadline = some 20333 ∧ a.colour = some .green := by decide +kernel
theorem test_move_yellow : let s := (moveRequest 5 11500 400 .trigger (axisFive id 14333)).1
    let a := ((moveRequest 5 9000 400 .trigger (atTime 15000 s)).1).axes[(5 : AxisIx)]
    a.c = 150 ∧ a.e = 834 ∧ a.moveFrom = 10166 ∧ a.speed = 125 ∧ a.deadline = some 24328 := by decide +kernel
theorem test_axis_end : let s := (moveRequest 5 11500 400 .trigger (axisFive id 14333)).1
    ((after (exec (.axisEndDeadline 5) (atTime 20333 s))).axes[(5 : AxisIx)]).pos = 11500 := by decide +kernel
theorem test_refill_expiry : let a := (after (exec (.refillDeadlineExpiry 5)
      (axisFive (fun a => { a with refillDeadline := 60000, c := 300, e := 834, refilled := 16000 }) 60000))).axes[(5 : AxisIx)]
    a.c = 4000 ∧ a.e = 2000 ∧ a.residue = 0 := by decide +kernel

/-! ## States that meet the hypotheses of the statements -/

/-- A command is the one that executes next. -/
theorem headed_atHead (code : Byte) (ops : List Byte) (s : State) :
    atHead { tag := 7, code := code, ops := ops } (headed code ops s) = true := by simp [atHead, headed]

theorem level_good : level.good .a = true ∧ level.kind = kindLevel := by
  refine ⟨?_, rfl⟩
  rw [level, build_good]
  decide +kernel

theorem clock_good : clock.good .a = true ∧ clock.kind = kindClock := by decide +kernel

/-- Linked, with a full B-out queue. -/
def bOutFilled : State := linked.modTrunk (fun t => { t with bOut := List.replicate 16 clock })

theorem witness_IdleStep : State.reset.pending = [] ∧ dueEvents State.reset = [] ∧
    (atTime 2000 State.reset).pending = [] ∧ dueEvents (atTime 2000 State.reset) ≠ [] := by decide +kernel
theorem witness_DeadlineReached : (600000 ≤ 600000 ∧ 2147483647 < 2147483648) ∧ (0 ≤ 600000 ∧ 0 < 2147483648) := by decide
theorem witness_CommandRows : (List.replicate 510 (0 : Byte)).length ≤ 510 ∧ (5 : Byte).toNat ≤ 5 ∧ 5 < (6 : Byte).toNat ∧
    0x0B < (0x0C : Byte).toNat ∧
    (0x62 : Byte) ∉ ([0x01, 0x02, 0x03, 0x10, 0x11, 0x20, 0x21, 0x22, 0x23, 0x24, 0x30, 0x31, 0x32, 0x40, 0x41, 0x50, 0x60,
      0x61] : List Byte) := by decide +kernel
theorem witness_WarmReset : atHead { tag := 7, code := 0x03, ops := [] } (headed 0x03 [] linked) = true ∧
    atHead { tag := 7, code := 0x03, ops := [0] } (headed 0x03 [0] linked) = true :=
  ⟨headed_atHead _ _ _, headed_atHead _ _ _⟩
theorem witness_PortsAndArbiter :
    (linked.trunk.linkA = .up ∧ linked.trunk.linkB = .up) ∧
    (State.reset.trunk.linkA = .down ∧ State.reset.trunk.linkB = .down) ∧ bOutFilled.trunk.bOut ≠ [] ∧
    waitingAnswer.trunk.sendingA.isSome = true ∧
    (let t : Trunk := { linkA := .up, own := [filler], relay := [clock], lastServed := .relay }
     t.linkA = .up ∧ t.sendingA = none ∧ t.own = [filler] ∧ t.lastServed = .relay) ∧
    (let t : Trunk := { linkA := .up, own := [filler], relay := [clock], lastServed := .own }
     t.linkA = .up ∧ t.sendingA = none ∧ t.relay = [clock] ∧ t.lastServed = .own) := by decide +kernel
theorem witness_LevelAndClockFrames : level.good .a = true ∧ level.kind = kindLevel ∧
    (let s := linked.modWatch 7 (fun w => { w with uni := some 12 })
     s.trunk.linkA = .up ∧ (s.watch[(7 : WatchIx)]).uni.map (·.val) = some 12 ∧ (s.watch[(0 : WatchIx)]).uni = none ∧
       s.trunk.linkB = .up ∧ s.trunk.bOut.length < 16) ∧
    bOutFilled.trunk.linkA = .up ∧ bOutFilled.trunk.linkB = .up ∧ 16 ≤ bOutFilled.trunk.bOut.length ∧ clock.good .a = true ∧ clock.kind = kindClock ∧
    linked.trunk.linkA = .up ∧ linked.trunk.linkB = .up ∧ linked.trunk.bOut.length < 16 :=
  ⟨level_good.1, level_good.2, by decide +kernel⟩
theorem witness_CommandFrameTakenOrRelayed : (commandTo 0 [7, 0x20, 0]).good .a = true ∧
    (commandTo 0 [7, 0x20, 0]).dest = linked.trunk.station ∧ linked.trunk.linkA = .up ∧
    bOutFilled.trunk.linkA = .up ∧ bOutFilled.trunk.linkB = .up ∧ 16 ≤ bOutFilled.trunk.bOut.length ∧
    (commandTo 63 [7, 0x20, 0]).kind = kindCommand ∧
    (commandTo 63 [7, 0x20, 0]).good .a = true ∧ (commandTo 63 [7, 0x20, 0]).dest = 63 ∧
    linked.trunk.bOut.length < 16 ∧ (commandTo 1 [7, 0x20, 0]).good .a = true ∧
    (commandTo 1 [7, 0x20, 0]).dest ≠ linked.trunk.station ∧ (commandTo 1 [7, 0x20, 0]).dest ≠ 63 ∧
    (commandTo 1 [7, 0x20, 0]).kind = kindCommand ∧
    (Frame.build kindBlock 1 (block 0 0 0 1).payload).good .a = true ∧
    (Frame.build kindBlock 1 (block 0 0 0 1).payload).dest = 1 := by decide +kernel

/-- Zone 4 of the pool under pressure, with its numbers. -/
theorem witness_Blocks :
    (block 24 0 0 1).good .a = true ∧ (block 4 3 0 1).good .a = true ∧ (block 4 0 0 1).good .a = true ∧
    (block 4 1 31 1).good .a = true ∧ (block 9 2 0 1).good .a = true ∧ (block 4 0 0 1).dest = linked.trunk.station ∧
    (block 4 0 0 1).kind = kindBlock ∧ linked.trunk.linkA = .up ∧ (pressure 195 60).trunk.linkA = .up := by decide +kernel

theorem witness_BlockDropped :
    (23 < ((block 24 0 0 1).payload.getD 0 0).toNat) ∧ (2 < ((block 4 3 0 1).payload.getD 1 0).toNat) ∧
    (let s := pressure 0 64
     let q := s.zones[(4 : ZoneIx)]
     s.bayState q.bay ≠ .dark ∧ s.pool.free < 1 ∧ q.owner.isSome = true ∧ q.clipState = .expecting ∧
       payloadClip (block 4 1 31 1).payload = q.clip ∧ s.pool.free < 1 + s.params.sceneReserve) ∧
    (let s := pressure 195 64
     1 + s.params.sceneReserve ≤ s.pool.free ∧ (s.zones[(4 : ZoneIx)]).limit < (s.zones[(4 : ZoneIx)]).usage + 1 ∧
       (s.zones[(4 : ZoneIx)]).ambientEnable = false ∧ (s.zones[(9 : ZoneIx)]).ambientEnable = true) ∧
    linked.bayState (linked.zones[(4 : ZoneIx)]).bay = .dark := by decide +kernel
theorem witness_BlockStored : let s := pressure 195 60
    let q := s.zones[(4 : ZoneIx)]
    classOf ((block 4 1 31 384).payload.getD 1 0) = some .scene ∧ s.bayState q.bay ≠ .dark ∧ q.owner.isSome = true ∧
      q.clipState = .expecting ∧ payloadClip (block 4 1 31 384).payload = q.clip ∧
      4 + s.params.sceneReserve ≤ s.pool.free ∧ q.usage + 4 ≤ q.limit ∧ q.pauseLevel < q.usage + 4 ∧ q.paused = true := by
  decide +kernel
theorem witness_ReturnAndMalformed : linked.trunk.linkB = .up ∧
    (Frame.build kindAnswer 5 [7, 0x20, 0]).good .b = true ∧ linked.trunk.link .a = .up ∧
    ({ clock with check := clock.check + 1 } : Frame).good .a = false ∧ State.reset.trunk.linkA = .down ∧
    State.reset.trunk.linkB = .down ∧ State.reset.trunk.link .a = .down ∧ State.reset.trunk.link .b = .down := by
  decide +kernel
theorem witness_AnswerOffered :
    (let s := after (exec .portATransmissionDone waitingAnswer)
     s.cmd.waiting.isSome = true ∧ s.trunk.own.length < 32) ∧
    commandInstr 7 0x04 [1] = .unknownCommand 7 0x04 [1] := by decide +kernel
theorem witness_OperandTests :
    atHead { tag := 7, code := 0x20, ops := [16] } (headed 0x20 [16] linked) = true ∧ 16 ≤ (16 : Byte).toNat ∧
    atHead { tag := 7, code := 0x41, ops := [] } (headed 0x41 [] linked) = true ∧
    atHead { tag := 7, code := 0x41, ops := [96] } (headed 0x41 [96] linked) = true ∧ 96 ≤ (96 : Byte).toNat := by
  decide +kernel

theorem witness_CheckRaised :
    (let c := State.reset.checks
     c.context = none ∧ (c.mode.covers .notice && c.mask.check) = false ∧ (c.mode.covers .severe && c.mask.check) = true ∧
       State.reset.trunk.own.length < 32) ∧ ¬ (ownFull.trunk.own.length < 32) ∧
    (raiseCheck (.node 5 15) none State.reset).checks.context.isSome = true := by decide +kernel

/-! ## LOAD and READ -/

theorem witness_LoadJudged :
    parseHeader [0, 0, 0, 0, 0] = none ∧
    (parseHeader [12, 0, 0, 0, 0, 0]).isSome = true ∧ loadInstr 7 [2, 6, 0, 0, 0, 0] = .loadUnknownTable 7 [2, 6, 0, 0, 0, 0] ∧
    entriesFit 1 1 [0x03, 0xFF] = true ∧ entriesFit 1 1 [0x04, 0x00] = false ∧ entriesFit 2 1 (5 :: zeros 10) = false ∧
    (tableLength 1 < 8 + 1 ∧ 7 + 1 ≤ tableLength 1 ∧ 8 + 0 ≤ tableLength 1) ∧
    (let ops : List Byte := [1, 0, 0, 6, 0, 2, 0x03, 0xFF, 0xFF, 0xFF]
     atHead { tag := 7, code := 0x01, ops := ops } (headed 0x01 ops linked) = true ∧
       (parseHeader ops).map (fun h => (h.table.toNat, h.first, h.count, h.rest)) =
         some (1, 6, 2, [0x03, 0xFF, 0xFF, 0xFF]) ∧
       entriesFit 1 2 [0x03, 0xFF, 0xFF, 0xFF] = true ∧ 4 = 2 * entrySize 1 ∧ 6 + 2 ≤ tableLength 1) ∧
    (∀ n : Fin 12, (zeros (entrySize n.val)).length = entrySize n.val) := by decide +kernel
theorem witness_LoadParamsWatchLineCurve :
    atHead { tag := 7, code := 0x01, ops := loadOne 0x01 0 7 [0x03, 0xFF] }
        (headed 0x01 (loadOne 0x01 0 7 [0x03, 0xFF]) linked) = true ∧
    (let s := linked.modWatch 0 (fun w => { w with uni := some 1023 })
     ∃ x : WatchIx, x ≠ 7 ∧ (s.watch[x]).uni = some 1023) ∧
    (∀ x : WatchIx, x ≠ 7 → (linked.watch[x]).uni ≠ some (1023 : UniverseIx)) ∧
    (zeros 9).length = 9 ∧ (zeros 272).length = 34 * 8 ∧ 0 + 8 ≤ 8 ∧ 8 + 0 ≤ 8 ∧ (zeros 0).length = 34 * 0 := by
  decide +kernel
/-- Entry 20 of bay 5 as an ACTIVE INTRUSION entry with the report flag. -/
def intruded : State :=
  ((crowd 2).modTrig 20 (fun r => { r with action := .intrusion 5, active := true, report := true })).modBay 5 (fun b =>
    { b with state := .hold, intrusions := [20], causes := { sensor := true } })

theorem witness_LoadSlot :
    (parseSlot (1 :: zeros 10)).isSome = true ∧ (parseSlot (4 :: zeros 10)).isSome = true ∧
    (∀ g : GroupIx, ((5 : LineIx), (47 : SlotIx)) ∉ (linked.groups[g]).members) ∧
    (let s := linked.modGroup 63 (fun g => { g with members := [(5, 47)], owner := some 11 })
     ((5 : LineIx), (47 : SlotIx)) ∈ (s.groups[(63 : GroupIx)]).members ∧ (s.groups[(63 : GroupIx)]).owner.isSome = true ∧
       ∀ h : GroupIx, ((5 : LineIx), (47 : SlotIx)) ∈ (s.groups[h]).members → h = 63) ∧
    (let s := linked.modGroup 63 (fun g => { g with members := [(5, 47)] })
     (s.groups[(63 : GroupIx)]).owner = none ∧
       ∀ h : GroupIx, ((5 : LineIx), (47 : SlotIx)) ∈ (s.groups[h]).members → h = 63) := by decide +kernel
theorem witness_LoadGroup : parseGroup (1 :: 5 :: 47 :: zeros 30) = some [(5, 47)] ∧
    (linked.groups[(63 : GroupIx)]).owner = none ∧ (linked.loadedSlot 5 47).kind ≠ .level ∧
    ((linked.modLine 5 (fun e => { e with loaded := e.loaded.set 47 { kind := .level } })).loadedSlot 5 47).kind = .level ∧
    ([((5 : LineIx), (47 : SlotIx))] : List (LineIx × SlotIx)).Nodup ∧
    ((linked.modGroup 63 (fun g => { g with owner := some 0 })).groups[(63 : GroupIx)]).owner.isSome = true := by
  decide +kernel
theorem witness_LoadBayTrigger :
    (let s := intruded
     (s.triggers[(20 : TrigIx)]).action = .intrusion 5 ∧ (s.triggers[(20 : TrigIx)]).active = true ∧
       (s.triggers[(20 : TrigIx)]).report = true ∧
       (parseTrigger [6, 2, 14, 3, 0, 5, 2, 1]).map (·.action) = some (.intrusion 5) ∧
       (parseTrigger [6, 2, 14, 3, 0, 4, 2, 1]).map (·.action) = some (.intrusion 4) ∧
       (parseTrigger [0, 2, 14, 3, 0, 5, 2, 1]).map (·.action) = some (.none 5) ∧
       ∀ y : TrigIx, y ≠ 20 → (s.triggers[y]).action.kind = .none) ∧
    ((zeros 11 ++ [0xFF]).length = 12 ∧ (zeros 11 ++ [0xFF]).getD 11 0 = 0xFF) ∧
    (parseTrigger [1, 2, 14, 3, 0, 8, 2, 1]).isSome = true ∧ (parseTrigger [6, 5, 47, 15, 1, 15, 2, 1]).isSome = true ∧
    ((crowd 2).triggers[(20 : TrigIx)]).action.kind ≠ .none ∧ (linked.triggers[(127 : TrigIx)]).action.kind ≠ .intrusion ∧
    (∀ y : TrigIx, (linked.triggers[y]).action.kind = .none) ∧
    (let s := { linked with triggers := mapAll (fun (r : TrigEntry) => { r with action := .intrusion 15 }) linked.triggers }
     16 ≤ ((List.finRange 128).filter (fun y => y ≠ 127 ∧ (s.triggers[y]).action = .intrusion 15)).length) := by
  decide +kernel
/-- An ACTIVE INTRUSION entry that is rewritten hands its bay the inactive notice and reports the change, in either order
(R92, R102, chapter 6). -/
theorem test_load_trigger_reports_inactive :
    let old : TrigEntry := { action := .intrusion 5, line := 2, slot := 14, bit := 3, report := true, active := true }
    let t := leaveIntrusion 20 old intruded
    (t.bays[(5 : BayIx)]).intrusions = [] ∧ t.trunk.own = intruded.trunk.own ++ [.report
      { showTime := 0, lost := 0, body := .trigger (some 20) 2 14 3 none (some .intrusion) .inactive }] := by
  intro old t
  have e : t = eitherOrder (entryReport 20 old none .inactive) (intrusionNotice 20 5 false) intruded := rfl
  rw [e]
  unfold eitherOrder
  split <;> decide +kernel
theorem witness_LoadSceneCue :
    (parseScene ([3, 2, 0x22] ++ zeros 14 ++ [2, 10, 10] ++ zeros 14)).isSome = true ∧
    (parseScene ([15, 7, 0x3F] ++ zeros 12 ++ [0x07, 0xFF, 1, 63] ++ zeros 15)).isSome = true ∧
    (∀ i : InstIx, (linked.insts[i]).state = .free) ∧ linked.waitList = [] ∧
    ((jumping.insts[(0 : InstIx)]).state ≠ .free ∧ (jumping.insts[(0 : InstIx)]).scene = 8) ∧
    (2046 + [(zeros 10, ({ kind := .endScene } : CueRec)), (zeros 10, { kind := .endScene })].length ≤ 2048) ∧
    parseCue (zeros 10) = some { kind := .endScene } := by decide +kernel
theorem witness_LoadZone :
    (parseZone ([0, 1, 2, 255, 0] ++ zeros 19)).isSome = true ∧ (parseZone ([0, 1, 2, 5, 47] ++ zeros 19)).isSome = true ∧
    (linked.zones[(23 : ZoneIx)]).owner = none ∧ ((pressure 195 60).zones[(4 : ZoneIx)]).owner.isSome = true ∧
    (linked.loadedSlot 5 47).kind ≠ .gain ∧ linked.bayState 0 = .dark ∧ (bayTwo id linked).bayState 2 ≠ .dark ∧
    (linked.zones[(23 : ZoneIx)]).voiceActive = false ∧
    (let s := (bayTwo id linked).modLine 5 (fun e => { e with loaded := e.loaded.set 47 { kind := .gain } })
     let t := s.modZone 23 (fun z => { z with bay := 2, voiceActive := true })
     (t.zones[(23 : ZoneIx)]).owner = none ∧ (t.zones[(23 : ZoneIx)]).voiceActive = true ∧
       (t.zones[(23 : ZoneIx)]).bedSlot = none ∧ (t.loadedSlot 5 47).kind = .gain ∧ t.bayState 0 = .dark ∧
       t.bayState (t.zones[(23 : ZoneIx)]).bay = .live ∧
       (parseZone ([0, 1, 2, 5, 47] ++ zeros 19)).map (fun r => (r.bay, r.bedSlot)) = some (0, some (5, 47)) ∧
       (parseZone ([2, 1, 2, 5, 47] ++ zeros 19)).map (fun r => (r.bay, r.bedSlot)) = some (2, some (5, 47))) := by
  decide +kernel
theorem witness_LoadAxis :
    (parseAxis ([0, 5, 47, 255, 0] ++ zeros 24)).isSome = true ∧ (parseAxis ([0, 5, 47, 5, 46] ++ zeros 24)).isSome = true ∧
    (linked.axes[(23 : AxisIx)]).owner = none ∧ ((axisFive id 0).axes[(5 : AxisIx)]).owner.isSome = true ∧
    (linked.loadedSlot 5 47).kind ≠ .axis ∧
    (let m : SlotRec := { kind := .axis, axis := 23 }
     let r : SlotRec := { kind := .reply, replyKind := .position, axis := 23 }
     let s := linked.modLine 5 (fun e => { e with loaded := (e.loaded.set 47 m).set 46 r })
     (s.loadedSlot 5 47).kind = .axis ∧ (s.loadedSlot 5 47).axis = 23 ∧ (s.loadedSlot 5 46).replyKind = .position) := by
  decide +kernel
theorem witness_Read :
    (1 ≤ 11 ∧ 7 < tableLength 1 ∧ ([0x03, 0xFF] : List Byte).length = entrySize 1 ∧
      answered (loaded .loadWatch 0x01 0 7 [0x03, 0xFF] State.reset) = some (.ok, .none) ∧
      loadInstr 7 (loadOne (BitVec.ofNat 8 1) 0 7 [0x03, 0xFF]) = .loadWatch 7 (loadOne 0x01 0 7 [0x03, 0xFF])) ∧
    ([0x09, 0, 0x07, 0xFF, 0, 1] : List Byte) = 0x09 :: 0 :: (toBytes2 2047 ++ toBytes2 1) ∧
    (readableOf 0x09 0).isSome = true ∧ (readableOf 0x0C 0).isNone = true ∧ (readableOf 0x02 6).isNone = true ∧
    (readableOf 0x02 5).isSome = true ∧ (readableOf 0x15 0).isNone = true ∧ (10 * 50 ≤ 503 ∧ 503 < 10 * 51) := by
  decide +kernel

/-! ## Commands -/

theorem witness_LineOnOff :
    (linked.lines[(5 : LineIx)]).running = false ∧ ((polling .opened).lines[(0 : LineIx)]).running = true ∧
    ((polling .opened).lines[(0 : LineIx)]).frame.isSome = true ∧
    (let e := (linked.modLine 5 (fun e => { e with running := true, nextStart := some 25 })).lines[(5 : LineIx)]
     e.running = true ∧ e.frame = none ∧ ∀ n : NodeIx, (e.nodes[n]).presence = .unknown) ∧
    (let e := (linked.modLine 5 (fun e =>
        { e with running := true, nextStart := some 25, nodes := e.nodes.set 15 { presence := .present, misses := 0 } })).lines[
          (5 : LineIx)]
     e.running = true ∧ e.frame = none ∧ (e.nodes[(15 : NodeIx)]).presence = .present) ∧
    (((polling .missed).modLine 0 (fun e => { e with stopPending := true })).lines[(0 : LineIx)]).stopPending = true := by
  decide +kernel
theorem witness_BayCommands :
    (linked.bays[(15 : BayIx)]).state = .dark ∧ ((bayFour id linked).bays[(4 : BayIx)]).state = .live ∧
    (let s := bayFour (fun b => { b with state := .hold, causes := { sensor := true, command := true } }) linked
     (s.bays[(4 : BayIx)]).state = .hold ∧ (s.bays[(4 : BayIx)]).causes.sensor = true) ∧
    (let s := bayFour (fun b => { b with state := .hold, causes := { command := true } }) linked
     (s.bays[(4 : BayIx)]).state = .hold ∧ (s.bays[(4 : BayIx)]).causes.sensor = false) ∧
    ((bayFour (fun b => { b with state := .service }) linked).bays[(4 : BayIx)]).state = .service := by decide +kernel
theorem witness_ParksMasters : (5 : Byte).toNat = (5 : LineIx).val ∧ (47 : Byte).toNat = (47 : SlotIx).val ∧
    5 < (6 : Byte).toNat ∧ 47 < (48 : Byte).toNat ∧ (2 : Byte).toNat ≤ 2 ∧ 2 < (3 : Byte).toNat ∧
    15 < (16 : Byte).toNat ∧ (15 : Byte).toNat = (15 : BayIx).val := by decide
theorem witness_StartRefused :
    (let r := linked.scenes[(95 : SceneIx)]
     r.flags.attract = false ∧ r.flags.live = false ∧ r.flags.safety = false) ∧
    (let s := (scene22 linked).modBay 3 (fun b => { b with state := .dark })
     (s.scenes[(22 : SceneIx)]).flags.live = true ∧ s.bayState (s.scenes[(22 : SceneIx)]).bay = .dark) ∧
    (let s := (scene22 linked).modBay 3 (fun b => { b with state := .attract })
     s.bayState (s.scenes[(22 : SceneIx)]).bay = .attract ∧ (s.scenes[(22 : SceneIx)]).flags.attract = false) ∧
    (let s := (scene22 linked).modScene 22 (fun c => { c with cooling := true })
     s.bayState (s.scenes[(22 : SceneIx)]).bay = .live ∧ (s.scenes[(22 : SceneIx)]).cooling = true) ∧
    (let s := (scene22 linked).modInst 11 (fun n => { n with state := .running, scene := 22 })
     ∃ i : InstIx, (s.insts[i]).state ≠ .free ∧ (s.insts[i]).scene = 22) ∧
    (let s := ((scene22 linked).modGroup 12 (fun g => { g with owner := some 0 })).modScene 22 (fun c => { c with waitLimit := 0 })
     (∃ g ∈ (s.scenes[(22 : SceneIx)]).groups, (s.groups[g]).owner = some 0) ∧
       ¬ ((s.sceneOf 0).priority < (s.scenes[(22 : SceneIx)]).priority ∧ (s.sceneOf 0).flags.safety = true) ∧
       (s.scenes[(22 : SceneIx)]).waitLimit = 0) := by decide +kernel
theorem witness_StartRefused_origins :
    (let s := (scene22 linked).modBay 3 (fun b => { b with state := .service })
     s.bayState (s.scenes[(22 : SceneIx)]).bay = .service ∧ Origin.trigger ≠ .command ∧ Origin.bay ≠ .command) ∧
    (let s := (scene22 linked).modScene 22 (fun c => { c with cooling := true, flags := { live := true, report := true } })
     (s.scenes[(22 : SceneIx)]).flags.report = true ∧ (s.scenes[(22 : SceneIx)]).cooling = true) := by decide +kernel
theorem witness_StartAdmitted_origins :
    (let s := (scene22 linked).modScene 22 (fun c => { c with flags := { live := true, restart := true, report := true } })
     let r := s.scenes[(22 : SceneIx)]
     r.flags.defined = true ∧ r.cooling = false ∧ permission (s.bayState r.bay) r.flags .trigger = none ∧
       permission (s.bayState r.bay) r.flags .bay = none ∧ r.flags.report = true ∧ s.waitList = [] ∧
       (∀ i : InstIx, (s.insts[i]).state = .free) ∧ (∀ g ∈ r.groups, (s.groups[g]).owner = none) ∧
       (∀ z ∈ r.zones, (s.zones[z]).owner = none) ∧ ∀ a ∈ r.axes, (s.axes[a]).owner = none) := by decide +kernel
theorem witness_StartAdmitted :
    (let s := scene22 linked
     (s.scenes[(22 : SceneIx)]).flags.defined = true ∧ (s.scenes[(22 : SceneIx)]).cooling = false ∧
       permission (s.bayState (s.scenes[(22 : SceneIx)]).bay) (s.scenes[(22 : SceneIx)]).flags .command = none ∧
       (∀ i : InstIx, (s.insts[i]).state = .free) ∧ s.waitList = [] ∧
       (∀ g ∈ (s.scenes[(22 : SceneIx)]).groups, (s.groups[g]).owner = none) ∧
       ∀ z ∈ (s.scenes[(22 : SceneIx)]).zones, (s.zones[z]).owner = none) ∧
    (let s := { scene22 linked with insts := mapAll (fun (n : Inst) => { n with state := .running, scene := 95 }) linked.insts }
     (∀ i : InstIx, (s.insts[i]).state ≠ .free ∧ (s.insts[i]).scene ≠ 22) ∧ 0 < (s.scenes[(22 : SceneIx)]).waitLimit ∧
       s.bayState (s.scenes[(22 : SceneIx)]).bay ≠ .service ∧ s.waitList.length < 8) ∧
    (let s := ((scene22 linked).modScene 22 (fun c => { c with flags := { live := true, restart := true } })).modInst 11
        (fun n => { n with state := .running, scene := 22 })
     (s.insts[(11 : InstIx)]).scene = 22 ∧ (s.scenes[(22 : SceneIx)]).flags.restart = true ∧
       ∀ j : InstIx, (s.insts[j]).state ≠ .free → (s.insts[j]).scene = 22 → j = 11) := by decide +kernel
/-- Scene 22 with a busy instance of scene 95 that owns its group 12. -/
def contested (f : Scene → Scene) : State :=
  (((scene22 linked).modGroup 12 (fun g => { g with owner := some 3 })).modInst 3 (fun n =>
    { n with state := .running, scene := 95 })).modScene 95 (fun c => f { c with groups := [12] })

theorem witness_PreemptionAndRescan :
    (linked.insts[(0 : InstIx)]).state = .free ∧ (jumping.insts[(0 : InstIx)]).state ≠ .free ∧
    (let s := contested id
     let r := s.scenes[(22 : SceneIx)]
     r.flags.defined = true ∧ permission (s.bayState r.bay) r.flags .trigger = none ∧ r.cooling = false ∧
       (∀ i : InstIx, (s.insts[i]).state ≠ .free → (s.insts[i]).scene ≠ 22) ∧ s.waitList = [] ∧ (12 : GroupIx) ∈ r.groups ∧
       (s.groups[(12 : GroupIx)]).owner = some 3 ∧
       (∀ g ∈ r.groups, g ≠ 12 → (s.groups[g]).owner = none) ∧ (∀ z ∈ r.zones, (s.zones[z]).owner = none) ∧ r.axes = [] ∧
       (s.sceneOf 3).priority < r.priority ∧ (s.sceneOf 3).flags.safety = false) ∧
    (let s := contested (fun c => { c with flags := { safety := true } })
     (s.sceneOf 3).flags.safety = true ∧ 0 < (s.scenes[(22 : SceneIx)]).waitLimit ∧
       s.bayState (s.scenes[(22 : SceneIx)]).bay ≠ .service ∧ s.waitList.length < 8) ∧
    (let s := scene22 linked
     let r := s.scenes[(22 : SceneIx)]
     permission (s.bayState r.bay) r.flags .bay = none ∧ (∀ g ∈ r.groups, (s.groups[g]).owner = none) ∧
       (∀ z ∈ r.zones, (s.zones[z]).owner = none) ∧ (∀ a ∈ r.axes, (s.axes[a]).owner = none) ∧
       (s.insts[(0 : InstIx)]).state = .free) :=
  ⟨by decide +kernel, by decide +kernel, by decide +kernel, by decide +kernel, by decide +kernel⟩
theorem witness_StopScene :
    (jumping.insts[(0 : InstIx)]).state ≠ .free ∧ (jumping.insts[(0 : InstIx)]).scene = 8 ∧ jumping.waitList = [] ∧
    (∀ j : InstIx, (jumping.insts[j]).state ≠ .free → (jumping.insts[j]).scene = 8 → j = 0) ∧
    (∀ i : InstIx, (linked.insts[i]).state = .free) ∧
    (linked.setWaitList [{ scene := 95, origin := .bay, priority := 7, enqueued := 0, expiry := 9 }]).waitList =
      [] ++ { scene := 95, origin := .bay, priority := 7, enqueued := 0, expiry := 9 } :: [] ∧
    (let s := jumping.setWaitList [{ scene := 95, origin := .bay, priority := 7, enqueued := 0, expiry := 9 }]
     s.waitList.length = 1 ∧ (stopRequest 8 s).2 = true ∧ atHead { tag := 7, code := 0x41, ops := [byte 8] } (headed 0x41 [byte 8] s) = true ∧
       ((headed 0x41 [byte 8] s).insts[(0 : InstIx)]).state ≠ .free ∧
       ((headed 0x41 [byte 8] s).insts[(0 : InstIx)]).scene = 8 ∧ ∀ j : InstIx, ¬ j < 0) := by decide +kernel
/-- Axis 5 on a move of 600 s, with an instance that waits on it at a cue until 600,000. -/
def headingFor (cue : CueIx) : State :=
  let s := axisFive (fun a =>
    { a with
      state := .moving, moveStart := 0, duration := 600000, deadline := some 600000, feedback := some (0, 6),
      setpoint := (0, 5), tolerance := 40, faultCount := 3, following := 1, owner := some 0 }) 600000
  ((s.modInst 0 (fun n =>
    { n with
      state := .running, scene := 8, cue := cue,
      wait := some { on := .motion 5, deadline := some 600000, action := .next } })).modScene 8 (fun c =>
    { c with axes := [5] })).modLine 0 (fun e =>
      { e with
        inForce := (e.inForce.set 5 { kind := .axis, axis := 5 }).set 6
          { kind := .reply, replyKind := .position, axis := 5, node := 15 }
        sent := e.sent.set 5 (some 10000) })

theorem witness_ResetAxisReportingChecks : (linked.axes[(23 : AxisIx)]).state ≠ .moving ∧ Mode.all.code = 3 ∧
    3 < (4 : Byte).toNat ∧ atHead { tag := 7, code := 0x61, ops := [] } (headed 0x61 [] linked) = true ∧
    atHead { tag := 7, code := 0x50, ops := [byte 5] } (headed 0x50 [byte 5] (headingFor 2046)) = true ∧
    ((headed 0x50 [byte 5] (headingFor 2046)).axes[(5 : AxisIx)]).state = .moving ∧
    ((headed 0x50 [byte 5] (headingFor 2046)).insts[(0 : InstIx)]).waitsOn (.motion 5) = true ∧
    ∀ i : InstIx, ((headed 0x50 [byte 5] (headingFor 2046)).insts[i]).waitsOn (.motion 5) = true →
      ((headed 0x50 [byte 5] (headingFor 2046)).insts[i]).cue.val < 2047 := by decide +kernel

/-! ## Lines and levels -/

theorem witness_FrameStart :
    (let s := linked.modLine 5 (fun e => { e with running := true, nextStart := some 0 })
     (s.lines[(5 : LineIx)]).nextStart = some 0 ∧ reached s.now 0 = true) ∧
    (∀ e : TrigIx, (linked.triggers[e]).action.kind ≠ .intrusion) ∧
    ∀ z : ZoneIx, (linked.zones[z]).announceQ = [] ∧ (linked.zones[z]).sceneQ = [] ∧ (linked.zones[z]).ambientQ = [] := by
  decide +kernel
theorem witness_FadeAndCurveArithmetic : (0 < 600000 ∧ 600000 ≤ 600000) ∧ (0 < 1 ∧ 0 ≤ 1) ∧ 4095 < 4096 ∧
    65535 ≤ 65535 := by decide
theorem witness_FadeActs : (fadingLight.slot 2 7).kind = .level ∧ (fadingLight.fade 2 7).state = .fading ∧
    (linked.slot 5 47).kind = .off ∧ (linked.fade 5 47).state = .atBase ∧
    ((freezeMember 2 7 fadingLight).fade 2 7).state = .frozen ∧
    (let ms := ((fadingLight.modGroup 12 (fun g => { g with members := [(2, 7)] })).groups[(12 : GroupIx)]).members
     ms.Nodup ∧ (2, 7) ∈ ms ∧ (2, 8) ∉ ms) := by decide +kernel
theorem witness_ReplyWindowCloses : (linked.lines[(5 : LineIx)]).frame = none ∧
    ((polling .opened).lines[(0 : LineIx)]).frame.isSome = true ∧
    ((polling .opened).lines[(0 : LineIx)]).windows[(4 : SlotIx)] = .opened := by decide +kernel
theorem witness_FrameEnd : ((polling .missed).lines[(0 : LineIx)]).frame = some 0 ∧
    ((polling .missed).lines[(0 : LineIx)]).stopPending = false ∧
    (((polling .missed).modLine 0 (fun e => { e with stopPending := true })).lines[(0 : LineIx)]).stopPending = true ∧
    (((polling (.valid 3)).lines[(0 : LineIx)]).windows[(4 : SlotIx)]).isValid = true := by decide +kernel

/-! ## Bays, triggers and expiries -/

theorem witness_BayExpiries :
    reached (atTime 49000 linked).now 49000 = true ∧
    ((bayTwo (fun b => { b with linger := some 49000 }) linked).bays[(2 : BayIx)]).linger = some 49000 ∧
    (let s := bayFour (fun b => { b with state := .hold, holdRelease := some 49000, causes := { sensor := true } }) linked
     (s.bays[(4 : BayIx)]).holdRelease = some 49000 ∧ (s.bays[(4 : BayIx)]).causes.command = false ∧
       (s.bays[(4 : BayIx)]).causes.fault = false ∧ (s.bays[(4 : BayIx)]).state = .hold) := by decide +kernel
theorem witness_BayInputs :
    ((bayFour (fun b => { b with occupancy := 250 }) linked).bays[(4 : BayIx)]).occupancy = 250 ∧
    ((bayFour (fun b => { b with occupancy := 0, state := .attract }) linked).bays[(4 : BayIx)]).state = .attract ∧
    ((bayFour id linked).bays[(4 : BayIx)]).intrusions = [] ∧ ((bayFour id linked).bays[(4 : BayIx)]).causes.sensor = false ∧
    ((bayFour (fun b => { b with intrusions := [40] }) linked).bays[(4 : BayIx)]).intrusions = [40] ∧
    (41 : TrigIx) ∉ ((bayFour (fun b => { b with intrusions := [40] }) linked).bays[(4 : BayIx)]).intrusions := by
  decide +kernel
theorem witness_BayChangeTaken :
    (let s := headingFor 2046
     ((s.axes[(5 : AxisIx)]).bay = 0 ∧ (s.axes[(5 : AxisIx)]).state = .moving ∧
       (s.insts[(0 : InstIx)]).waitsOn (.motion 5) = true) ∧
       ∀ a : AxisIx, (s.axes[a]).bay = 0 ∧ (s.axes[a]).state = .moving →
         ∀ i : InstIx, (s.insts[i]).waitsOn (.motion a) = true → (s.insts[i]).cue.val < 2047) ∧
    (BayState.live ≠ .dark ∧ BayState.live ≠ .hold) ∧
    (let s := linked.modZone 23 (fun z => { z with bedSlot := some (5, 47) })
     (s.zones[(23 : ZoneIx)]).bay = 0 ∧ (s.zones[(23 : ZoneIx)]).bedSlot = some (5, 47)) := by decide +kernel
theorem witness_Press :
    (let s := (crowd 2).modTrig 20 (fun r => { r with report := true })
     (s.triggers[(20 : TrigIx)]).report = true ∧ (s.triggers[(20 : TrigIx)]).action = .start 8 ∧
       ∀ i : InstIx, (s.insts[i]).wait = none) ∧
    (let s := (crowd 2).modTrig 20 (fun r => { r with report := true, action := .cue 0 })
     (s.triggers[(20 : TrigIx)]).action = .cue 0 ∧ 0 < (s.triggers[(20 : TrigIx)]).credit) ∧ (crowd 2).bayState 5 = .live ∧ 0 < ((crowd 2).triggers[(20 : TrigIx)]).credit ∧
    ((crowd 0).triggers[(20 : TrigIx)]).credit = 0 ∧ ((crowd 2).triggers[(20 : TrigIx)]).report = false ∧
    ((crowd 2).triggers[(20 : TrigIx)]).action = .start 8 ∧ linked.bayState 5 = .dark ∧
    (∀ i : InstIx, ((crowd 2).insts[i]).wait = none) ∧
    (let s := (crowd 2).modInst 11 (fun n =>
        { n with state := .running, cue := 2046, wait := some { on := .trigger 20, deadline := none, action := .next } })
     (s.insts[(11 : InstIx)]).waitsOn (.trigger 20) = true ∧ (s.insts[(11 : InstIx)]).cue.val < 2047) := by decide +kernel
theorem witness_TriggerWords :
    (let s := (polling (.valid 3)).modLine 0 (fun e => { e with prev := e.prev.set 4 (some 1) })
     ((s.lines[(0 : LineIx)]).nodes[(s.slot 0 4).node]).presence ≠ .present ∧
       ((s.lines[(0 : LineIx)]).prev)[(4 : SlotIx)] = some 1 ∧
       (let t := s.modLine 0 (fun e => { e with nodes := e.nodes.set 3 { presence := .present } })
        ((t.lines[(0 : LineIx)]).nodes[(t.slot 0 4).node]).presence = .present) ∧
       ∀ k : SlotIx, (match ((s.lines[(0 : LineIx)]).windows)[k] with | .valid _ => true | _ => false) = true →
         (s.slot 0 k).replyKind = .trigger) ∧
    (∀ x : TrigIx, (linked.triggers[x]).action.kind = .none) ∧
    (let s := (crowd 2).modTrig 20 (fun r => { r with action := .enter 15, report := true })
     (s.triggers[(20 : TrigIx)]).action.kind ≠ .none ∧ (s.triggers[(20 : TrigIx)]).edge = .rise ∧
       ∀ y : TrigIx, (s.triggers[y]).action.kind ≠ .none → y = 20) ∧
    (let e := intruded.triggers[(20 : TrigIx)]
     e.action = .intrusion 5 ∧ e.active = true ∧ (intruded.slot e.line e.slot).kind ≠ .reply) ∧
    (let s := intruded.modLine 2 (fun e =>
        { e with
          inForce := e.inForce.set 14 { kind := .reply, node := 3 }, prev := e.prev.set 14 (some 0)
          nodes := e.nodes.set 3 { presence := .present } })
     let e := s.triggers[(20 : TrigIx)]
     e.active = true ∧ (s.slot 2 14).kind = .reply ∧ (s.slot 2 14).replyKind = .trigger ∧
       ((s.lines[(2 : LineIx)]).nodes[(3 : NodeIx)]).presence = .present ∧
       ((s.lines[(2 : LineIx)]).prev)[(14 : SlotIx)] = some 0 ∧ (0 : BitVec 16).getLsbD e.bit.val = false) := by
  decide +kernel
theorem witness_TimerExpiries :
    reached (atTime 2000 linked).now (atTime 2000 linked).throttle = true ∧
    reached (atTime 600000 linked).now ((atTime 600000 linked).axes[(23 : AxisIx)]).refillDeadline = true ∧
    (let s := linked.modWatch 7 (fun w => { w with deadline := some 0 })
     (s.watch[(7 : WatchIx)]).deadline = some 0 ∧ reached s.now 0 = true) ∧
    (fadingLight.fade 2 7).deadline = some 2000 ∧ reached (atTime 2000 fadingLight).now 2000 = true ∧
    (let s := linked.modScene 95 (fun c => { c with cooling := true })
     (s.scenes[(95 : SceneIx)]).cooling = true ∧ reached s.now (s.scenes[(95 : SceneIx)]).ready = true) ∧
    (let s := linked.modZone 23 (fun z => { z with bedNext := some 0, voiceNext := some 0 })
     (s.zones[(23 : ZoneIx)]).bedNext = some 0 ∧ (s.zones[(23 : ZoneIx)]).voiceNext = some 0) := by decide +kernel

/-! ## Cues, waits and motion -/

/-- An instance due at a cue of a kind. -/
def dueAt (k : CueKind) : State := atTime 11000 (running 400 (some 11000) { kind := k } State.reset)

theorem witness_DueEventCues :
    (let s := dueAt (.light 2 false 30000 400)
     (s.insts[(0 : InstIx)]).due = some 11000 ∧ reached s.now 11000 = true ∧
       cueFault (s.sceneOf 0) (s.cues[(400 : CueIx)]).kind = none ∧ (s.cues[(401 : CueIx)]).delay ≠ 0) ∧
    cueFault ((dueAt .endScene).sceneOf 0) (.light 3 false 0 0) = some .group ∧
    cueFault ((dueAt .endScene).sceneOf 0) (.move 5 0 0) = none ∧
    cueFault ((dueAt .endScene).sceneOf 0) (.waitMotion 5 0 .next) = none ∧
    (((dueAt .endScene).modAxis 5 (fun a => { a with state := .moving })).axes[(5 : AxisIx)]).state = .moving ∧
    (let s := (dueAt (.voice 5 31)).modScene 8 (fun c => { c with zones := [5] })
     cueFault (s.sceneOf 0) (.voice 5 31) = none ∧ cueFault (s.sceneOf 0) (.waitClip 5 0 .next) = none ∧
       (s.zones[(5 : ZoneIx)]).clipState = .none) ∧
    ((dueAt (.jump 400 0)).cues[(400 : CueIx)]).delay = 0 := by decide +kernel
/-- The cue that follows has delay 0, or lies beyond cue memory; a JUMP leads to a cue of delay 0. -/
theorem witness_DueEventCues_goes_on :
    (let s := (dueAt (.light 2 false 30000 400)).modInst 0 (fun n => { n with due := none })
     let t := { s with cues := s.cues.set 401 { delay := 0, kind := .endScene } }
     cueFault (t.sceneOf 0) (t.cues[(400 : CueIx)]).kind = none ∧ (t.cues[(401 : CueIx)]).delay = 0 ∧
       (401 : CueIx).val = (t.insts[(0 : InstIx)]).cue.val + 1) ∧
    (let s := (dueAt .endScene).modInst 0 (fun n => { n with cue := 2047, due := none })
     let t := { s with cues := s.cues.set 2047 { kind := .light 2 true 0 0 } }
     cueFault (t.sceneOf 0) (t.cues[(2047 : CueIx)]).kind = none ∧ 2047 < (t.insts[(0 : InstIx)]).cue.val + 1) ∧
    (let s := dueAt (.jump 400 0)
     (executeCue 0 (.jump 400 0) s).2 = .next 400 ∧ (s.cues[(400 : CueIx)]).delay = 0) :=
  ⟨by decide +kernel, by decide +kernel, by decide +kernel⟩
theorem witness_JumpCounts :
    (let n := jumping.insts[(0 : InstIx)]
     n.due = some 11000 ∧ reached jumping.now 11000 = true ∧ (jumping.cues[n.cue]).kind = .jump 401 2 ∧
       (jumping.cues[(401 : CueIx)]).delay ≠ 0) ∧
    ((dueAt (.jump 2048 0)).cues[(400 : CueIx)]).kind = .jump 2048 0 ∧ 2047 < 2048 := by decide +kernel
theorem witness_WaitAndAxisEnds :
    (let s := atTime 18000 ((running 400 none {} State.reset).modInst 0 (fun n =>
        { n with wait := some { on := .motion 5, deadline := some 18000, action := .next } }))
     reached s.now 18000 = true ∧ (s.insts[(0 : InstIx)]).waitsOn (.motion 5) = true ∧
       ∀ j : InstIx, (s.insts[j]).waitsOn (.motion 5) = true → j = 0) ∧
    (let s := headingFor 2047
     reached s.now 600000 = true ∧ (s.insts[(0 : InstIx)]).cue.val = 2047 ∧
       (s.insts[(0 : InstIx)]).wait = some { on := .motion 5, deadline := some 600000, action := .next }) ∧
    (let s := headingFor 2046
     (s.axes[(5 : AxisIx)]).deadline = some 600000 ∧
       (s.axes[(5 : AxisIx)]).duration ≤ (s.now - (s.axes[(5 : AxisIx)]).moveStart).toNat ∧
       ∀ i : InstIx, (s.insts[i]).waitsOn (.motion 5) = true → (s.insts[i]).cue.val < 2047) ∧
    (let s := axisFive (fun a => { a with state := .moving, moveStart := 0, duration := 600000, deadline := some 599999 }) 599999
     reached s.now 599999 = true ∧ (s.axes[(5 : AxisIx)]).deadline = some 599999 ∧
       (s.now - (s.axes[(5 : AxisIx)]).moveStart).toNat < (s.axes[(5 : AxisIx)]).duration) ∧
    (let s := axisFive (fun a => { a with state := .moving, moveStart := 0, duration := 600000, deadline := some 600000 }) 600000
     (s.axes[(5 : AxisIx)]).duration ≤ (s.now - (s.axes[(5 : AxisIx)]).moveStart).toNat ∧
       ∀ i : InstIx, (s.insts[i]).waitsOn (.motion 5) = false) := by decide +kernel
theorem witness_Moves :
    ((axisFive id 14333).axes[(5 : AxisIx)]).state = .idle ∧ (axisFive id 14333).bayState 0 = .live ∧
    (let x := (axisFive id 14333).axes[(5 : AxisIx)]
     let y := x.refill (axisFive id 14333).now
     (1549 ≤ y.c ∧ y.c < 1550 ∧ 1550 ≤ y.e ∧ 2000 ≤ y.e ∧ y.e < 2001) ∧ x.position (axisFive id 14333).now = 10000) ∧
    (linked.axes[(5 : AxisIx)]).state = .unsynced ∧
    ((axisFive (fun a => { a with state := .stopped }) 0).axes[(5 : AxisIx)]).state = .stopped ∧
    (let s := headingFor 2046
     let x := (s.modAxis 5 (fun a => { a with moveFrom := 10000, moveTo := 10000 })).axes[(5 : AxisIx)]
     x.state = .moving ∧ x.position s.now = x.moveFrom ∧ x.kl ≤ x.moveFrom ∧ x.moveFrom ≤ x.ku ∧ s.bayState x.bay = .live ∧
       (s.insts[(0 : InstIx)]).waitsOn (.motion 5) = true ∧
       ∀ i : InstIx, (s.insts[i]).waitsOn (.motion 5) = true → (s.insts[i]).cue.val < 2047) := by decide +kernel
theorem witness_PositionWordsAndFaults :
    (let s := headingFor 2046
     let x := s.axes[(5 : AxisIx)]
     let sp := s.slot x.setpoint.1 x.setpoint.2
     (s.slot 0 6).axis = 5 ∧ x.feedback = some (0, 6) ∧ x.state = .moving ∧ 0 < x.tolerance ∧ x.setpoint.1 = 0 ∧
       sp.kind = .axis ∧ sp.axis = 5 ∧ ((s.lines[(0 : LineIx)]).sent)[x.setpoint.2] = some 10000 ∧
       (10040 - 10000 ≤ x.tolerance ∧ x.tolerance < 10041 - 10000) ∧ min (x.following + 1) 15 < x.faultCount ∧
       (∀ i : InstIx, (s.insts[i]).waitsOn (.motion 5) = true → (s.insts[i]).cue.val < 2047) ∧
       (s.slot 0 6).kind ≠ .off ∧ (s.slot 0 6).node = 15) ∧
    (let x := ((headingFor 2046).modAxis 5 (fun a => { a with following := 2 })).axes[(5 : AxisIx)]
     x.faultCount ≤ min (x.following + 1) 15) ∧
    (let s := headingFor 2046
     (let t := s.modAxis 5 (fun a => { a with state := .unsynced })
      (t.axes[(5 : AxisIx)]).state = .unsynced ∧ (t.axes[(5 : AxisIx)]).feedback = some (0, 6)) ∧
       ((s.modAxis 5 (fun a => { a with state := .stopped })).axes[(5 : AxisIx)]).state = .stopped ∧
       ((s.modAxis 5 (fun a => { a with tolerance := 0 })).axes[(5 : AxisIx)]).tolerance = 0) ∧
    (let s := (polling .missed).modLine 0 (fun e => { e with nodes := e.nodes.set 3 { presence := .present, misses := 2 } })
     let old := ((s.lines[(0 : LineIx)]).nodes)[(3 : NodeIx)]
     old.presence = .present ∧ (old.settle (nodeWindows s 0 3)).presence = .absent ∧
       ((({} : Node).settle (nodeWindows s 0 2)).presence = .unknown)) ∧
    (let s := (headingFor 2046).modLine 0 (fun e => { e with windows := e.windows.set 6 (.valid 10041) })
     ((s.lines[(0 : LineIx)]).windows)[(6 : SlotIx)] = .valid 10041 ∧
       ∀ k : SlotIx, (match ((s.lines[(0 : LineIx)]).windows)[k] with | .valid _ => true | _ => false) = true →
         (s.slot 0 k).replyKind = .position) := by decide +kernel
theorem witness_SuspendAndResume :
    (let s := (headingFor 2046).modGroup 2 (fun g => { g with owner := some 0, members := [(2, 7)] })
     let t := s.modScene 8 (fun c => { c with groups := [2] })
     (2 : GroupIx) ∈ (t.sceneOf 0).groups ∧ (t.groups[(2 : GroupIx)]).owner = some 0 ∧
       ((2 : LineIx), (7 : SlotIx)) ∈ (t.groups[(2 : GroupIx)]).members ∧ (5 : AxisIx) ∈ (t.sceneOf 0).axes ∧
       (t.axes[(5 : AxisIx)]).owner = some 0 ∧ (t.axes[(5 : AxisIx)]).state = .moving ∧
       (∀ j : InstIx, j ≠ 0 → (t.insts[j]).waitsOn (.motion 5) = false) ∧
       ((t.insts[(0 : InstIx)]).wait.map (·.on) = some (.motion 5)) ∧ (t.insts[(0 : InstIx)]).cue.val < 2047 ∧
       ((t.modAxis 5 (fun a => { a with state := .idle })).axes[(5 : AxisIx)]).state ≠ .moving) ∧
    (let n : Inst := { state := .running, due := some 80000 }
     reached 79000 80000 = false ∧ n.due = some 80000) ∧
    (let n : Inst := { state := .running, wait := some { on := .clip 23, deadline := some 80000, action := .endIt } }
     n.wait.bind (·.deadline) = some 80000 ∧ reached 80000 80000 = true) := by decide +kernel

/-- An ANNOUNCE chunk of one block. -/
def announcement : Chunk := { cls := .announce, clip := 0, seq := 0, last := true, audio := [1, 2, 3], arrival := 0 }

/-- The last SCENE chunk of clip 31. -/
def closing : Chunk := { announcement with cls := .scene, clip := 31 }

/-- Zone 23 on line 5, owned and served, with a bed gain slot, the last chunk of its clip and one of its bed. -/
def ducking : State :=
  (((scene22 linked).modZone 23 (fun z =>
    { z with
      bay := 3, line := 5, owner := some 0, clip := 31, clipState := .expecting, bedSlot := some (5, 47),
      sceneQ := [closing], ambientQ := [{ announcement with cls := .ambient }], usage := 2 })).modInst 0 (fun n =>
    { n with state := .running, scene := 22 })).modLine 5 (fun e =>
      { e with inForce := e.inForce.set 47 { kind := .gain } })

theorem witness_BlockWindow :
    (let s := ducking
     let q := s.zones[(23 : ZoneIx)]
     q.announceQ = [] ∧ q.owner = some 0 ∧ (s.insts[(0 : InstIx)]).state = .running ∧ s.bayState q.bay = .live ∧
       q.sceneQ = [closing] ∧ q.voiceNext = none ∧ (closing.audio.length + 95) / 96 ≤ 4 ∧
       q.bedSlot = some (5, 47) ∧ closing.cls ≠ .ambient ∧ q.voiceActive = false ∧ (s.slot 5 47).kind = .gain ∧
       (∀ i : InstIx, (s.insts[i]).waitsOn (.clip 23) = true → (s.insts[i]).cue.val < 2047) ∧
       q.ambientQ = [{ announcement with cls := .ambient }] ∧ q.bedNext = none) ∧
    (let t := takeChunk 23 closing ducking
     let q := t.zones[(23 : ZoneIx)]
     closing.last = true ∧ q.voiceActive = true ∧ q.announceQ = [] ∧ q.sceneQ = [] ∧ q.clipState = .playing ∧
       closing.clip = q.clip ∧ q.bedSlot = some (5, 47)) ∧
    (let s := linked.modZone 23 (fun z => { z with line := 5, announceQ := [announcement], voiceActive := true })
     (s.zones[(23 : ZoneIx)]).line = 5 ∧ (∀ x : ZoneIx, (s.zones[x]).line = 5 → x = 23) ∧
       (s.zones[(23 : ZoneIx)]).voiceNext = none ∧ (3 + 95) / 96 ≤ (s.lines[(5 : LineIx)]).params.allowance) ∧
    (linked.zones[(23 : ZoneIx)]).paused = false ∧
    linked.bayState (linked.zones[(23 : ZoneIx)]).bay = .dark := by decide +kernel

/-! ## The invariants hold of a blank part, and it steps -/

/-- The blank part with a first command. -/
def blankUp : State := { State.blank with pending := [.linkUp .a] }

theorem witness_step : ∃ t, step blankUp = .next t := ⟨_, rfl⟩
theorem witness_TrunkKept : TrunkOk blankUp := by
  simp [TrunkOk, Trunk.ok, CommandUnit.ok, blankUp, State.blank]
theorem witness_BaysKept : BaysOk blankUp := by
  intro b
  simp [Bay.ok, Bay.stateOk, blankUp, State.blank]
theorem witness_TriggersKept : TriggersOk blankUp ∧ IntrusionsOk blankUp := by
  refine ⟨⟨fun e => ?_, fun e f h => ?_, fun b => ?_⟩, fun b e => ?_⟩
  · simp [blankUp, State.blank]
  · simp [blankUp, State.blank, TrigAction.kind] at h
  · revert b
    decide +kernel
  · simp [blankUp, State.blank, TrigAction.intrusionBay]
theorem witness_FadesAndAxesKept : FadesOk blankUp ∧ AxesOk blankUp ∧ GroupsOk blankUp := by
  refine ⟨fun l k => ?_, fun a => ?_, fun g => ?_, fun g h m => ?_⟩
  · simp [State.fade, FadeRec.ok, blankUp, State.blank]
  · simp [Axis.ok, blankUp, State.blank, later, Config.longest]
  · simp [blankUp, State.blank]
  · simp [blankUp, State.blank]
theorem witness_LinesAndPoolKept : LinesOk blankUp ∧ PoolOk blankUp ∧ ClipsOk blankUp := by
  refine ⟨fun l => ?_, ?_, fun z => ?_⟩
  · simp [LineEngine.ok, LineParams.ok, Node.ok, carriedBlocks, blankUp, State.blank]
  · unfold PoolOk
    decide +kernel
  · simp [Zone.clipOk, blankUp, State.blank]
/-- Two wait entries of one priority, the later one last. -/
def waitingTwo : State :=
  { blankUp with
    waitList := [
      { scene := 95, origin := .bay, priority := 7, enqueued := -5, expiry := 10 },
      { scene := 2, origin := .command, priority := 7, enqueued := 0, expiry := 120000 }] }

theorem witness_WaitListOk : WaitListOk waitingTwo := by
  refine ⟨by decide, ?_, ?_, fun c => ?_⟩
  · unfold WaitEntry.before
    decide +kernel
  · unfold WaitEntry.ok
    decide +kernel
  · simp [waitingTwo, blankUp, State.blank]
theorem witness_AdmissionKept : WaitListOk blankUp ∧ AdmissionOk blankUp := by
  refine ⟨⟨by decide, .nil, by simp [blankUp, State.blank], fun c => by simp [blankUp, State.blank]⟩, fun i => ?_, ⟨fun i j h => ?_, .nil, fun e h => ?_⟩, ⟨fun g i => ?_, fun z i => ?_, fun a i => ?_⟩,
    fun a h => ?_⟩
  · simp [Inst.ok, blankUp, State.blank]
  · simp [Inst.busy, blankUp, State.blank] at h
  · simp [blankUp, State.blank] at h
  all_goals simp_all [Inst.busy, blankUp, State.blank]

end Sys2Proof.Tests
end

section
/-! PROOFS. The level computation and the expiries that act on one record: the levels a slot sends stage by stage (R62 to
R70), the arithmetic of fades and curves (R64, R69), and the expiries of R59, R78, R98, R108, R118, R164 and R175. -/

namespace Sys2Proof.Machine.LightLevels

/-! ## Rounding to the nearest (R64) -/

/-- A quotient rounded to the nearest, halves up: the step that `fadeAt` takes from its start level. -/
def roundedDiv (n d : Nat) : Nat := (n + d / 2) / d

section Rounding

variable {n d m : Nat}

theorem two_mul_roundedDiv_le (n d : Nat) : 2 * (d * roundedDiv n d) ≤ 2 * n + d := by
  have := Nat.mul_div_le (n + d / 2) d
  unfold roundedDiv
  omega

theorem lt_two_mul_roundedDiv (n : Nat) (hd : 0 < d) : 2 * n < 2 * (d * roundedDiv n d) + d := by
  have := Nat.lt_mul_div_succ (n + d / 2) hd
  rw [Nat.mul_add] at this
  unfold roundedDiv
  omega

theorem roundedDiv_le (hd : 0 < d) (h : n ≤ m * d) : roundedDiv n d ≤ m := by
  rw [roundedDiv, ← Nat.lt_succ_iff, Nat.div_lt_iff_lt_mul hd, Nat.succ_mul]
  omega

theorem roundedDiv_mul_self (m : Nat) (hd : 0 < d) : roundedDiv (m * d) d = m := by
  rw [roundedDiv, Nat.add_comm, Nat.add_mul_div_right _ _ hd, Nat.div_eq_of_lt (by omega), Nat.zero_add]

theorem roundedDiv_zero (hd : 0 < d) : roundedDiv 0 d = 0 := by
  simpa using roundedDiv_mul_self 0 hd

end Rounding

/-! ## A running fade (R64) -/

section Fades

variable {start target e d : Nat}

theorem fadeAt_rising (e : Nat) (hd : 0 < d) (h : start ≤ target) :
    fadeAt start target e d = start + roundedDiv ((target - start) * e) d := by
  obtain rfl | lt := Nat.eq_or_lt_of_le h
  · have still : d / 2 / d = 0 := by simpa [roundedDiv] using roundedDiv_zero hd
    simp [fadeAt, roundedDiv, still]
  · rw [fadeAt, if_pos lt, roundedDiv]

theorem fadeAt_falling (e d : Nat) (h : target ≤ start) :
    fadeAt start target e d = start - roundedDiv ((start - target) * e) d := by
  rw [fadeAt, if_neg (by omega), roundedDiv]

/-- The step of a fade never passes its distance. -/
theorem fadeStep_le (dist : Nat) (hd : 0 < d) (he : e ≤ d) : roundedDiv (dist * e) d ≤ dist :=
  roundedDiv_le hd (Nat.mul_le_mul_left dist he)

theorem fadeAt_zero (start target : Nat) (hd : 0 < d) : fadeAt start target 0 d = start := by
  obtain h | h := Nat.le_total start target
  · simp [fadeAt_rising 0 hd h, roundedDiv_zero hd]
  · simp [fadeAt_falling 0 d h, roundedDiv_zero hd]

theorem fadeAt_duration (start target : Nat) (hd : 0 < d) : fadeAt start target d d = target := by
  obtain h | h := Nat.le_total start target
  · rw [fadeAt_rising d hd h, roundedDiv_mul_self _ hd]
    omega
  · rw [fadeAt_falling d d h, roundedDiv_mul_self _ hd]
    omega

theorem fadeAt_between (start target : Nat) (hd : 0 < d) (he : e ≤ d) :
    min start target ≤ fadeAt start target e d ∧ fadeAt start target e d ≤ max start target := by
  obtain h | h := Nat.le_total start target
  · have := fadeStep_le (target - start) hd he
    rw [fadeAt_rising e hd h]
    omega
  · have := fadeStep_le (start - target) hd he
    rw [fadeAt_falling e d h]
    omega

theorem fadeAt_rising_nearest (e : Nat) (hd : 0 < d) (h : start ≤ target) :
    2 * (d * (fadeAt start target e d - start)) ≤ 2 * ((target - start) * e) + d ∧
      2 * ((target - start) * e) < 2 * (d * (fadeAt start target e d - start)) + d := by
  rw [fadeAt_rising e hd h, Nat.add_sub_cancel_left]
  exact ⟨two_mul_roundedDiv_le _ d, lt_two_mul_roundedDiv _ hd⟩

theorem fadeAt_falling_nearest (hd : 0 < d) (he : e ≤ d) (h : target ≤ start) :
    2 * (d * (start - fadeAt start target e d)) ≤ 2 * ((start - target) * e) + d ∧
      2 * ((start - target) * e) < 2 * (d * (start - fadeAt start target e d)) + d := by
  have := fadeStep_le (start - target) hd he
  rw [fadeAt_falling e d h, Nat.sub_sub_self (by omega)]
  exact ⟨two_mul_roundedDiv_le _ d, lt_two_mul_roundedDiv _ hd⟩

end Fades

/-! ## Curves (R69) -/

/-- The value of a curve `f` past its point `i`, with the quotient that R69 floors. -/
theorem shape_segment (c : Curve) (i : Nat) {f : Nat} (hf : f < 4096) :
    c.shape (4096 * i + f) =
      ((c.point i : Int) + (((c.point (i + 1) : Int) - c.point i) * f + 2048) / 4096).toNat := by
  have hi : (4096 * i + f) / 4096 = i := by omega
  have hr : (4096 * i + f) % 4096 = f := by omega
  simp only [Curve.shape, hi, hr]

theorem shape_point (c : Curve) (i : Nat) : c.shape (4096 * i) = c.point i := by
  simpa using shape_segment c i (f := 0) (by decide)

/-- The share of a rise that is added past a point lies between none and all of it. -/
theorem segmentShare_between {rise : Int} {f : Nat} (hf : f < 4096) :
    min 0 rise ≤ (rise * f + 2048) / 4096 ∧ (rise * f + 2048) / 4096 ≤ max 0 rise := by
  obtain h | h := Int.le_total 0 rise
  · have low : 0 ≤ rise * f := Int.mul_nonneg h (by omega)
    have high : rise * f ≤ rise * 4095 := Int.mul_le_mul_of_nonneg_left (by omega) h
    omega
  · have low : rise * 4095 ≤ rise * f := Int.mul_le_mul_of_nonpos_left h (by omega)
    have high : rise * f ≤ 0 := Int.mul_nonpos_of_nonpos_of_nonneg h (by omega)
    omega

theorem shape_between (c : Curve) (i : Nat) {f : Nat} (hf : f < 4096) :
    min (c.point i) (c.point (i + 1)) ≤ c.shape (4096 * i + f) ∧
      c.shape (4096 * i + f) ≤ max (c.point i) (c.point (i + 1)) := by
  have share := segmentShare_between (rise := (c.point (i + 1) : Int) - c.point i) hf
  rw [shape_segment c i hf]
  omega

theorem identityCurve_point : ∀ i : Fin 17, identityCurve.point i.val = if i.val = 16 then 65535 else 4096 * i.val := by
  decide

/-- In all segments but the last the identity points rise by 4,096; in the last they rise by 4,095, and the
rounded share falls behind by 1 beyond its middle, 63,488 (R69). -/
theorem identityCurve_shape {x : Nat} (hx : x ≤ 65535) :
    identityCurve.shape x = if x ≤ 63488 then x else x - 1 := by
  obtain ⟨i, f, hf, rfl⟩ : ∃ i f, f < 4096 ∧ x = 4096 * i + f :=
    ⟨x / 4096, x % 4096, by omega, by omega⟩
  have here := identityCurve_point ⟨i, by omega⟩
  have following := identityCurve_point ⟨i + 1, by omega⟩
  simp only at here following
  rw [shape_segment _ i hf, here, following]
  by_cases last : i = 15
  · subst last
    rw [if_neg (by decide), if_pos (by decide)]
    split <;> omega
  · rw [if_neg (by omega), if_neg (by omega), if_pos (by omega)]
    have rise : ((4096 * (i + 1) : Nat) : Int) - (4096 * i : Nat) = 4096 := by omega
    rw [rise]
    omega

/-- Settles O38: a running fade is rounded to the nearest level and stays between its ends; a curve interpolates. -/
theorem fadeAndCurveArithmetic : Obligations.FadeAndCurveArithmetic := by
  refine ⟨fun start target e d hd he => ?_, fun c i => ⟨shape_point c i, fun f hf => shape_between c i hf⟩,
    fun x hx => identityCurve_shape hx⟩
  obtain ⟨low, high⟩ := fadeAt_between start target hd he
  refine ⟨?_, ?_, low, high, fadeAt_rising_nearest e hd, fadeAt_falling_nearest hd he⟩
  · rintro rfl
    exact fadeAt_zero start target hd
  · rintro rfl
    exact fadeAt_duration start target hd

/-! ## The levels of a slot (R63 to R70) -/

theorem baseLevel_le (s : State) (r : SlotRec) : baseLevel s r ≤ 65535 := by
  unfold baseLevel
  split
  · exact Nat.zero_le _
  · next w ch _ =>
    have := ((s.watch[w]).image[ch]).isLt
    split <;> omega

theorem mergeLevel_atBase {f : FadeRec} (h : f.state = .atBase) (m : Merge) (b : Nat) (now : Time) :
    mergeLevel m b f now = b := by
  simp [mergeLevel, h]

theorem mergeLevel_take {f : FadeRec} (h : f.state ≠ .atBase) (b : Nat) (now : Time) :
    mergeLevel .take b f now = f.level b now := by
  cases hf : f.state with
  | atBase => exact absurd hf h
  | fading | holding | frozen => simp only [mergeLevel, hf]

theorem mergeLevel_highest {f : FadeRec} (h : f.state ≠ .atBase) (b : Nat) (now : Time) :
    mergeLevel .highest b f now = max b (f.level b now) := by
  cases hf : f.state with
  | atBase => exact absurd hf h
  | fading | holding | frozen => simp only [mergeLevel, hf]

theorem master_dark {b : Bay} (h : b.state = .dark) (gain : Bool) : b.master gain = 0 := by
  simp [Bay.master, h]

theorem master_gain {b : Bay} (h : b.state ≠ .dark) : b.master true = b.audioMaster := by
  cases hb : b.state with
  | dark => exact absurd hb h
  | attract | live | hold | service => simp only [Bay.master, hb]

theorem master_light (b : Bay) :
    b.master false =
      match b.state with
      | .attract => b.attractMaster
      | .live | .hold => b.liveMaster
      | .service => 255
      | .dark => 0 := by
  unfold Bay.master
  cases b.state <;> rfl

theorem floored_iff (x : BayState) : x.floored = true ↔ x = .dark ∨ x = .hold ∨ x = .service := by
  cases x <;> simp [BayState.floored]

/-- Settles O37, stage by stage: the base, the merge by fade state, the master, the work floor and the curve. -/
theorem levelStages : Obligations.LevelStages := by
  intro s l k r f bay base target fading w m l1 lit l2 c
  have base_eq : baseLevel s r = base := by
    unfold baseLevel base
    cases r.patch <;> rfl
  have target_eq : f.target.level base = target := rfl
  have fading_eq : fadeAt f.start target (f.elapsed s.now) f.duration = fading := rfl
  have working : workingLevel s l k = w := by
    change mergeLevel r.merge (baseLevel s r) f s.now = w
    rw [base_eq]
    cases hf : f.state
    case atBase => simp only [mergeLevel_atBase hf, w, hf]
    case fading | holding | frozen =>
      have away : f.state ≠ .atBase := by simp [hf]
      cases hm : r.merge
      case take => simp only [mergeLevel_take away, w, hf, hm, FadeRec.level, target_eq, fading_eq]
      case highest => simp only [mergeLevel_highest away, w, hf, hm, FadeRec.level, target_eq, fading_eq]
  have master : bay.master (r.kind == .gain) = m := by
    unfold m
    split
    · next dark => exact master_dark dark _
    · next awake =>
      split
      · next gain => rw [beq_iff_eq.mpr gain, master_gain awake]
      · next light =>
        rw [beq_false_of_ne light]
        exact master_light bay
  have level1 : scaled (workingLevel s l k) (bay.master (r.kind == .gain)) = l1 := by
    rw [working, master]
    rfl
  have level2 : flooredLevel r bay l1 = l2 := by
    simp only [flooredLevel, floored_iff, l2, lit]
  refine ⟨base_eq ▸ baseLevel_le s r, working, ?_⟩
  calc slotValue s l k
      = min (shaped s.curvesInForce[l] r.curve (flooredLevel r bay
          (scaled (workingLevel s l k) (bay.master (r.kind == .gain))))) r.ceiling := rfl
    _ = min (shaped s.curvesInForce[l] r.curve l2) r.ceiling := by rw [level1, level2]
    _ = min c r.ceiling := rfl

/-! ## Expiries -/

theorem upd_congr {α : Type} {n : Nat} {v : Vector α n} {i : Fin n} {f g : α → α} (h : f v[i] = g v[i]) :
    upd v i f = upd v i g := by
  unfold upd
  rw [h]

section Due

variable {s : State} {d : Time}

theorem expired_of_reached (h : reached s.now d = true) : expired s.now (some d) = true := h

theorem exec_staleExpiry_due {w : WatchIx} (hd : (s.watch[w]).deadline = some d) (h : reached s.now d = true) :
    exec (.staleExpiry w) s = .next (staleExpires w s) := by
  change execStaleExpiry w s = _
  rw [execStaleExpiry, hd, if_pos (expired_of_reached h)]

theorem exec_fadeEndEvent_due {l : LineIx} {k : SlotIx} (hd : (s.fade l k).deadline = some d)
    (h : reached s.now d = true) : exec (.fadeEndEvent l k) s = .next (s.modFade l k FadeRec.finish) := by
  change execFadeEndEvent l k s = _
  rw [execFadeEndEvent, hd, if_pos (expired_of_reached h)]

theorem exec_throttleExpiry_due (h : reached s.now s.throttle = true) :
    exec .throttleExpiry s = .next (rearmThrottle s) := by
  change execThrottleExpiry s = _
  rw [execThrottleExpiry, if_pos h]

theorem exec_readyTimeExpiry_due {c : SceneIx} (hc : (s.scenes[c]).cooling = true)
    (h : reached s.now (s.scenes[c]).ready = true) :
    exec (.readyTimeExpiry c) s = .next (s.modScene c (fun r => { r with cooling := false })) := by
  change execReadyTimeExpiry c s = _
  rw [execReadyTimeExpiry, if_pos ⟨hc, h⟩]

theorem exec_waitEntryExpiry_due {c : SceneIx} {e : WaitEntry} (h : expiredEntry s c = some e) :
    exec (.waitEntryExpiry c) s = .next (removeEntry e .expired s) := by
  change execWaitEntryExpiry c s = _
  rw [execWaitEntryExpiry, h]

theorem exec_nextSendExpiry_due {z : ZoneIx} {stream : Stream} (hd : (s.zones[z]).nextSend stream = some d)
    (h : reached s.now d = true) :
    exec (.nextSendExpiry z stream) s = .next (s.modZone z (fun r => r.clearNext stream)) := by
  change execNextSendExpiry z stream s = _
  rw [execNextSendExpiry, hd, if_pos (expired_of_reached h)]

theorem exec_refillDeadlineExpiry_due {a : AxisIx} (h : reached s.now (s.axes[a]).refillDeadline = true) :
    exec (.refillDeadlineExpiry a) s = .next (s.modAxis a (fun x => x.refill s.now)) := by
  change execRefillDeadlineExpiry a s = _
  rw [execRefillDeadlineExpiry, if_pos h]

end Due

theorem rearmThrottle_sameBut (s : State) : s.sameBut (rearmThrottle s) [.triggers, .throttle] := by
  intro p hp
  cases p
  case triggers | throttle => simp at hp
  all_goals rfl

theorem rearmThrottle_trigger (s : State) (e : TrigIx) :
    (rearmThrottle s).triggers[e] = { s.triggers[e] with credit := (s.triggers[e]).allowance } :=
  mapAll_getElem _ _ _ _

section WaitList

variable {before after : List WaitEntry} {w : WaitEntry}

theorem withoutEntry_of_only (only : ∀ x ∈ before ++ after, x.scene ≠ w.scene) :
    withoutEntry w.scene (before ++ w :: after) = before ++ after := by
  have others : (before ++ after).filter (fun e => e.scene != w.scene) = before ++ after :=
    List.filter_eq_self.mpr fun x hx => by simpa using only x hx
  rw [withoutEntry, List.filter_append, List.filter_cons_of_neg (by simp), ← List.filter_append, others]

theorem expiredEntry_of_only {s : State} (hw : s.waitList = before ++ w :: after)
    (only : ∀ x ∈ before ++ after, x.scene ≠ w.scene) (h : reached s.now w.expiry = true) :
    expiredEntry s w.scene = some w := by
  have passed : before.find? (fun e => e.scene == w.scene && reached s.now e.expiry) = none :=
    List.find?_eq_none.mpr fun x hx => by simp [only x (List.mem_append_left _ hx)]
  simp [expiredEntry, hw, List.find?_append, passed, h]

end WaitList

/-- Settles O47: under its reached deadline each row acts, and its act is the stated next state. -/
theorem timerExpiries : Obligations.TimerExpiries := by
  intro s
  refine ⟨fun w d => exec_staleExpiry_due, fun l k d => exec_fadeEndEvent_due, fun h => ?throttle,
    fun c => exec_readyTimeExpiry_due, fun before w after hw only h => ?wait,
    fun z d h => ⟨fun hd => ?voice, fun hd => ?bed⟩, fun a h => ?refill⟩
  case throttle =>
    exact ⟨_, exec_throttleExpiry_due h, rearmThrottle_sameBut s, rfl, rearmThrottle_trigger s⟩
  case wait =>
    rw [exec_waitEntryExpiry_due (expiredEntry_of_only hw only h)]
    simp only [removeEntry, sceneReport, State.setWaitList, hw, withoutEntry_of_only only]
  case voice => exact exec_nextSendExpiry_due (stream := .voice) hd h
  case bed => exact exec_nextSendExpiry_due (stream := .bed) hd h
  case refill =>
    rw [exec_refillDeadlineExpiry_due h]
    exact congrArg (fun axes => Host.Outcome.next { s with axes := axes }) (upd_congr rfl)

end Sys2Proof.Machine.LightLevels
end
